-- ==== Sys2Proof/Word.lean ====
section
/-! DEFINITION. The word types of the block (rules R7, R8, R20, R120): bytes, halfwords, words, doublewords and
five-bit register numbers, all core bit vectors, so that the library's lemmas about them apply. -/

namespace Sys2Proof

/-- One byte, the addressable unit of memory (R80). -/
abbrev Byte := BitVec 8
/-- A 16-bit immediate or halfword (R8). -/
abbrev Half := BitVec 16
/-- A 32-bit word: an instruction word, a 32-bit register, a router address (R80, R120). -/
abbrev Word := BitVec 32
/-- A 64-bit doubleword: a general register, `HI`, `LO`, `pc` (R20, R25, R26). -/
abbrev Dword := BitVec 64
/-- The number of a general, floating-point or control register, as the instruction word holds it (R122). -/
abbrev Reg := BitVec 5

/-- `sext_64(v)` of R8. -/
abbrev sext64 {n : Nat} (v : BitVec n) : Dword := v.signExtend 64
/-- `zext_64(v)` of R8. -/
abbrev zext64 {n : Nat} (v : BitVec n) : Dword := v.setWidth 64
/-- `trunc_32(v)` of R8. -/
abbrev trunc32 {n : Nat} (v : BitVec n) : Word := v.setWidth 32

end Sys2Proof
end

