-- ==== Sys2Proof/Syntax.lean ====
section
/-! DEFINITION. The instructions of the block: one constructor for each row of the opcode table (R127, R141), with its
operands in the order of the assembler (R139). A register number, a shift amount, an immediate, an offset and a jump
target are bit vectors of the width of their field (R122). The software fields that the hardware ignores (the code of
SYSCALL, BREAK and the register traps, the operation of CACHE) are plain numbers, bounded in WellFormed. -/

namespace Sys2Proof

/-- An instruction: each constructor cites the rule that gives its meaning. -/
inductive Instr where
  /-- ADD (R190). -/
  | add (rd rs rt : Reg)
  /-- ADDU (R191). -/
  | addu (rd rs rt : Reg)
  /-- SUB (R192). -/
  | sub (rd rs rt : Reg)
  /-- SUBU (R193). -/
  | subu (rd rs rt : Reg)
  /-- ADDI (R194). -/
  | addi (rt rs : Reg) (imm : Half)
  /-- ADDIU (R195). -/
  | addiu (rt rs : Reg) (imm : Half)
  /-- DADD (R196). -/
  | dadd (rd rs rt : Reg)
  /-- DADDU (R197). -/
  | daddu (rd rs rt : Reg)
  /-- DSUB (R198). -/
  | dsub (rd rs rt : Reg)
  /-- DSUBU (R199). -/
  | dsubu (rd rs rt : Reg)
  /-- DADDI (R200). -/
  | daddi (rt rs : Reg) (imm : Half)
  /-- DADDIU (R201). -/
  | daddiu (rt rs : Reg) (imm : Half)
  /-- DIV (R210). -/
  | div (rs rt : Reg)
  /-- DIVU (R211). -/
  | divu (rs rt : Reg)
  /-- DDIV (R212). -/
  | ddiv (rs rt : Reg)
  /-- DDIVU (R213). -/
  | ddivu (rs rt : Reg)
  /-- MULT (R214). -/
  | mult (rs rt : Reg)
  /-- MULTU (R215). -/
  | multu (rs rt : Reg)
  /-- DMULT (R216). -/
  | dmult (rs rt : Reg)
  /-- DMULTU (R217). -/
  | dmultu (rs rt : Reg)
  /-- SLL (R230). -/
  | sll (rd rt : Reg) (sa : BitVec 5)
  /-- SRL (R231). -/
  | srl (rd rt : Reg) (sa : BitVec 5)
  /-- SRA (R232). -/
  | sra (rd rt : Reg) (sa : BitVec 5)
  /-- SLLV (R233). -/
  | sllv (rd rt rs : Reg)
  /-- SRLV (R234). -/
  | srlv (rd rt rs : Reg)
  /-- SRAV (R235). -/
  | srav (rd rt rs : Reg)
  /-- DSLL (R236). -/
  | dsll (rd rt : Reg) (sa : BitVec 5)
  /-- DSRL (R237). -/
  | dsrl (rd rt : Reg) (sa : BitVec 5)
  /-- DSRA (R238). -/
  | dsra (rd rt : Reg) (sa : BitVec 5)
  /-- DSLLV (R239). -/
  | dsllv (rd rt rs : Reg)
  /-- DSRLV (R240). -/
  | dsrlv (rd rt rs : Reg)
  /-- DSRAV (R241). -/
  | dsrav (rd rt rs : Reg)
  /-- DSLL32 (R242). -/
  | dsll32 (rd rt : Reg) (sa : BitVec 5)
  /-- DSRL32 (R243). -/
  | dsrl32 (rd rt : Reg) (sa : BitVec 5)
  /-- DSRA32 (R244). -/
  | dsra32 (rd rt : Reg) (sa : BitVec 5)
  /-- SLT (R245). -/
  | slt (rd rs rt : Reg)
  /-- SLTU (R246). -/
  | sltu (rd rs rt : Reg)
  /-- SLTI (R247). -/
  | slti (rt rs : Reg) (imm : Half)
  /-- SLTIU (R248). -/
  | sltiu (rt rs : Reg) (imm : Half)
  /-- AND (R249). -/
  | and (rd rs rt : Reg)
  /-- OR (R250). -/
  | or (rd rs rt : Reg)
  /-- XOR (R251). -/
  | xor (rd rs rt : Reg)
  /-- NOR (R252). -/
  | nor (rd rs rt : Reg)
  /-- ANDI (R253). -/
  | andi (rt rs : Reg) (imm : Half)
  /-- ORI (R254). -/
  | ori (rt rs : Reg) (imm : Half)
  /-- XORI (R255). -/
  | xori (rt rs : Reg) (imm : Half)
  /-- LUI (R256). -/
  | lui (rt : Reg) (imm : Half)
  /-- MFHI (R271). -/
  | mfhi (rd : Reg)
  /-- MTHI (R272). -/
  | mthi (rs : Reg)
  /-- MFLO (R273). -/
  | mflo (rd : Reg)
  /-- MTLO (R274). -/
  | mtlo (rs : Reg)
  /-- MFC0 (R275). -/
  | mfc0 (rt rd : Reg)
  /-- MTC0 (R276). -/
  | mtc0 (rt rd : Reg)
  /-- DMFC0 (R277). -/
  | dmfc0 (rt rd : Reg)
  /-- DMTC0 (R278). -/
  | dmtc0 (rt rd : Reg)
  /-- MFC1 (R279). -/
  | mfc1 (rt fs : Reg)
  /-- MTC1 (R280). -/
  | mtc1 (rt fs : Reg)
  /-- DMFC1 (R281). -/
  | dmfc1 (rt fs : Reg)
  /-- DMTC1 (R282). -/
  | dmtc1 (rt fs : Reg)
  /-- CFC1 (R283). -/
  | cfc1 (rt fs : Reg)
  /-- CTC1 (R284). -/
  | ctc1 (rt fs : Reg)
  /-- BEQ (R302). -/
  | beq (rs rt : Reg) (offset : Half)
  /-- BNE (R303). -/
  | bne (rs rt : Reg) (offset : Half)
  /-- BLEZ (R304). -/
  | blez (rs : Reg) (offset : Half)
  /-- BGTZ (R305). -/
  | bgtz (rs : Reg) (offset : Half)
  /-- BLTZ (R306). -/
  | bltz (rs : Reg) (offset : Half)
  /-- BGEZ (R307). -/
  | bgez (rs : Reg) (offset : Half)
  /-- BLTZAL (R308). -/
  | bltzal (rs : Reg) (offset : Half)
  /-- BGEZAL (R309). -/
  | bgezal (rs : Reg) (offset : Half)
  /-- BEQL (R310). -/
  | beql (rs rt : Reg) (offset : Half)
  /-- BNEL (R311). -/
  | bnel (rs rt : Reg) (offset : Half)
  /-- BLEZL (R312). -/
  | blezl (rs : Reg) (offset : Half)
  /-- BGTZL (R313). -/
  | bgtzl (rs : Reg) (offset : Half)
  /-- BLTZL (R314). -/
  | bltzl (rs : Reg) (offset : Half)
  /-- BGEZL (R315). -/
  | bgezl (rs : Reg) (offset : Half)
  /-- BLTZALL (R316). -/
  | bltzall (rs : Reg) (offset : Half)
  /-- BGEZALL (R317). -/
  | bgezall (rs : Reg) (offset : Half)
  /-- BC1F (R318). -/
  | bc1f (offset : Half)
  /-- BC1T (R319). -/
  | bc1t (offset : Half)
  /-- BC1FL (R320). -/
  | bc1fl (offset : Half)
  /-- BC1TL (R321). -/
  | bc1tl (offset : Half)
  /-- J (R322). -/
  | j (target : BitVec 26)
  /-- JAL (R323). -/
  | jal (target : BitVec 26)
  /-- JR (R324). -/
  | jr (rs : Reg)
  /-- JALR (R325). -/
  | jalr (rd rs : Reg)
  /-- LB (R342). -/
  | lb (rt base : Reg) (offset : Half)
  /-- LBU (R343). -/
  | lbu (rt base : Reg) (offset : Half)
  /-- LH (R344). -/
  | lh (rt base : Reg) (offset : Half)
  /-- LHU (R345). -/
  | lhu (rt base : Reg) (offset : Half)
  /-- LW (R346). -/
  | lw (rt base : Reg) (offset : Half)
  /-- LWU (R347). -/
  | lwu (rt base : Reg) (offset : Half)
  /-- LD (R348). -/
  | ld (rt base : Reg) (offset : Half)
  /-- LWL (R349). -/
  | lwl (rt base : Reg) (offset : Half)
  /-- LWR (R350). -/
  | lwr (rt base : Reg) (offset : Half)
  /-- LDL (R351). -/
  | ldl (rt base : Reg) (offset : Half)
  /-- LDR (R352). -/
  | ldr (rt base : Reg) (offset : Half)
  /-- SB (R353). -/
  | sb (rt base : Reg) (offset : Half)
  /-- SH (R354). -/
  | sh (rt base : Reg) (offset : Half)
  /-- SW (R355). -/
  | sw (rt base : Reg) (offset : Half)
  /-- SD (R356). -/
  | sd (rt base : Reg) (offset : Half)
  /-- SWL (R357). -/
  | swl (rt base : Reg) (offset : Half)
  /-- SWR (R358). -/
  | swr (rt base : Reg) (offset : Half)
  /-- SDL (R359). -/
  | sdl (rt base : Reg) (offset : Half)
  /-- SDR (R360). -/
  | sdr (rt base : Reg) (offset : Half)
  /-- LL (R361). -/
  | ll (rt base : Reg) (offset : Half)
  /-- LLD (R362). -/
  | lld (rt base : Reg) (offset : Half)
  /-- SC (R363). -/
  | sc (rt base : Reg) (offset : Half)
  /-- SCD (R364). -/
  | scd (rt base : Reg) (offset : Half)
  /-- LWC1 (R365). -/
  | lwc1 (ft base : Reg) (offset : Half)
  /-- LDC1 (R366). -/
  | ldc1 (ft base : Reg) (offset : Half)
  /-- SWC1 (R367). -/
  | swc1 (ft base : Reg) (offset : Half)
  /-- SDC1 (R368). -/
  | sdc1 (ft base : Reg) (offset : Half)
  /-- ADD.S (R394). -/
  | addS (fd fs ft : Reg)
  /-- ADD.D (R394). -/
  | addD (fd fs ft : Reg)
  /-- SUB.S (R395). -/
  | subS (fd fs ft : Reg)
  /-- SUB.D (R395). -/
  | subD (fd fs ft : Reg)
  /-- MUL.S (R396). -/
  | mulS (fd fs ft : Reg)
  /-- MUL.D (R396). -/
  | mulD (fd fs ft : Reg)
  /-- DIV.S (R397). -/
  | divS (fd fs ft : Reg)
  /-- DIV.D (R397). -/
  | divD (fd fs ft : Reg)
  /-- SQRT.S (R398). -/
  | sqrtS (fd fs : Reg)
  /-- SQRT.D (R398). -/
  | sqrtD (fd fs : Reg)
  /-- ABS.S (R399). -/
  | absS (fd fs : Reg)
  /-- ABS.D (R399). -/
  | absD (fd fs : Reg)
  /-- MOV.S (R400). -/
  | movS (fd fs : Reg)
  /-- MOV.D (R400). -/
  | movD (fd fs : Reg)
  /-- NEG.S (R401). -/
  | negS (fd fs : Reg)
  /-- NEG.D (R401). -/
  | negD (fd fs : Reg)
  /-- ROUND.L.S (R402). -/
  | roundLS (fd fs : Reg)
  /-- ROUND.L.D (R402). -/
  | roundLD (fd fs : Reg)
  /-- TRUNC.L.S (R403). -/
  | truncLS (fd fs : Reg)
  /-- TRUNC.L.D (R403). -/
  | truncLD (fd fs : Reg)
  /-- CEIL.L.S (R404). -/
  | ceilLS (fd fs : Reg)
  /-- CEIL.L.D (R404). -/
  | ceilLD (fd fs : Reg)
  /-- FLOOR.L.S (R405). -/
  | floorLS (fd fs : Reg)
  /-- FLOOR.L.D (R405). -/
  | floorLD (fd fs : Reg)
  /-- ROUND.W.S (R406). -/
  | roundWS (fd fs : Reg)
  /-- ROUND.W.D (R406). -/
  | roundWD (fd fs : Reg)
  /-- TRUNC.W.S (R407). -/
  | truncWS (fd fs : Reg)
  /-- TRUNC.W.D (R407). -/
  | truncWD (fd fs : Reg)
  /-- CEIL.W.S (R408). -/
  | ceilWS (fd fs : Reg)
  /-- CEIL.W.D (R408). -/
  | ceilWD (fd fs : Reg)
  /-- FLOOR.W.S (R409). -/
  | floorWS (fd fs : Reg)
  /-- FLOOR.W.D (R409). -/
  | floorWD (fd fs : Reg)
  /-- CVT.S.D (R410). -/
  | cvtSD (fd fs : Reg)
  /-- CVT.S.W (R410). -/
  | cvtSW (fd fs : Reg)
  /-- CVT.S.L (R410). -/
  | cvtSL (fd fs : Reg)
  /-- CVT.D.S (R411). -/
  | cvtDS (fd fs : Reg)
  /-- CVT.D.W (R411). -/
  | cvtDW (fd fs : Reg)
  /-- CVT.D.L (R411). -/
  | cvtDL (fd fs : Reg)
  /-- CVT.W.S (R412). -/
  | cvtWS (fd fs : Reg)
  /-- CVT.W.D (R412). -/
  | cvtWD (fd fs : Reg)
  /-- CVT.L.S (R413). -/
  | cvtLS (fd fs : Reg)
  /-- CVT.L.D (R413). -/
  | cvtLD (fd fs : Reg)
  /-- C.F.S (R415). -/
  | cFS (fs ft : Reg)
  /-- C.F.D (R415). -/
  | cFD (fs ft : Reg)
  /-- C.UN.S (R416). -/
  | cUnS (fs ft : Reg)
  /-- C.UN.D (R416). -/
  | cUnD (fs ft : Reg)
  /-- C.EQ.S (R417). -/
  | cEqS (fs ft : Reg)
  /-- C.EQ.D (R417). -/
  | cEqD (fs ft : Reg)
  /-- C.UEQ.S (R418). -/
  | cUeqS (fs ft : Reg)
  /-- C.UEQ.D (R418). -/
  | cUeqD (fs ft : Reg)
  /-- C.OLT.S (R419). -/
  | cOltS (fs ft : Reg)
  /-- C.OLT.D (R419). -/
  | cOltD (fs ft : Reg)
  /-- C.ULT.S (R420). -/
  | cUltS (fs ft : Reg)
  /-- C.ULT.D (R420). -/
  | cUltD (fs ft : Reg)
  /-- C.OLE.S (R421). -/
  | cOleS (fs ft : Reg)
  /-- C.OLE.D (R421). -/
  | cOleD (fs ft : Reg)
  /-- C.ULE.S (R422). -/
  | cUleS (fs ft : Reg)
  /-- C.ULE.D (R422). -/
  | cUleD (fs ft : Reg)
  /-- C.SF.S (R423). -/
  | cSfS (fs ft : Reg)
  /-- C.SF.D (R423). -/
  | cSfD (fs ft : Reg)
  /-- C.NGLE.S (R424). -/
  | cNgleS (fs ft : Reg)
  /-- C.NGLE.D (R424). -/
  | cNgleD (fs ft : Reg)
  /-- C.SEQ.S (R425). -/
  | cSeqS (fs ft : Reg)
  /-- C.SEQ.D (R425). -/
  | cSeqD (fs ft : Reg)
  /-- C.NGL.S (R426). -/
  | cNglS (fs ft : Reg)
  /-- C.NGL.D (R426). -/
  | cNglD (fs ft : Reg)
  /-- C.LT.S (R427). -/
  | cLtS (fs ft : Reg)
  /-- C.LT.D (R427). -/
  | cLtD (fs ft : Reg)
  /-- C.NGE.S (R428). -/
  | cNgeS (fs ft : Reg)
  /-- C.NGE.D (R428). -/
  | cNgeD (fs ft : Reg)
  /-- C.LE.S (R429). -/
  | cLeS (fs ft : Reg)
  /-- C.LE.D (R429). -/
  | cLeD (fs ft : Reg)
  /-- C.NGT.S (R430). -/
  | cNgtS (fs ft : Reg)
  /-- C.NGT.D (R430). -/
  | cNgtD (fs ft : Reg)
  /-- ERET (R450). -/
  | eret
  /-- SYSCALL (R451). -/
  | syscall (code : Nat)
  /-- BREAK (R452). -/
  | brk (code : Nat)
  /-- SYNC (R453). -/
  | sync
  /-- CACHE (R454). -/
  | cache (cacheop : Nat) (base : Reg) (offset : Half)
  /-- TLBR (R455). -/
  | tlbr
  /-- TLBWI (R456). -/
  | tlbwi
  /-- TLBWR (R457). -/
  | tlbwr
  /-- TLBP (R458). -/
  | tlbp
  /-- TGE (R459). -/
  | tge (rs rt : Reg) (code : Nat)
  /-- TGEU (R460). -/
  | tgeu (rs rt : Reg) (code : Nat)
  /-- TLT (R461). -/
  | tlt (rs rt : Reg) (code : Nat)
  /-- TLTU (R462). -/
  | tltu (rs rt : Reg) (code : Nat)
  /-- TEQ (R463). -/
  | teq (rs rt : Reg) (code : Nat)
  /-- TNE (R464). -/
  | tne (rs rt : Reg) (code : Nat)
  /-- TGEI (R465). -/
  | tgei (rs : Reg) (imm : Half)
  /-- TGEIU (R466). -/
  | tgeiu (rs : Reg) (imm : Half)
  /-- TLTI (R467). -/
  | tlti (rs : Reg) (imm : Half)
  /-- TLTIU (R468). -/
  | tltiu (rs : Reg) (imm : Half)
  /-- TEQI (R469). -/
  | teqi (rs : Reg) (imm : Half)
  /-- TNEI (R470). -/
  | tnei (rs : Reg) (imm : Half)
deriving DecidableEq, Repr

end Sys2Proof
end

