-- ==== Sys2Proof/WellFormed.lean ====
section
/-! DEFINITION. Which instructions fit their encoding: the plain-number fields are within the width of their field of
the instruction word (R122). Every other operand is a bit vector of its field's width. -/

namespace Sys2Proof

/-- The instruction fits its word: the code of SYSCALL and BREAK has 20 bits, the code of a register trap has 10, the
operation of CACHE has 5 (R122, R123). -/
def Instr.wellFormed (i : Instr) : Bool :=
  match i with
  | .syscall code => decide (code < 2 ^ 20)
  | .brk code => decide (code < 2 ^ 20)
  | .cache cacheop _ _ => decide (cacheop < 2 ^ 5)
  | .tge _ _ code => decide (code < 2 ^ 10)
  | .tgeu _ _ code => decide (code < 2 ^ 10)
  | .tlt _ _ code => decide (code < 2 ^ 10)
  | .tltu _ _ code => decide (code < 2 ^ 10)
  | .teq _ _ code => decide (code < 2 ^ 10)
  | .tne _ _ code => decide (code < 2 ^ 10)
  | .add _ _ _ | .addu _ _ _ | .sub _ _ _ | .subu _ _ _ | .addi _ _ _ | .addiu _ _ _ | .dadd _ _ _
  | .daddu _ _ _ | .dsub _ _ _ | .dsubu _ _ _ | .daddi _ _ _ | .daddiu _ _ _ | .div _ _ | .divu _ _ | .ddiv _ _
  | .ddivu _ _ | .mult _ _ | .multu _ _ | .dmult _ _ | .dmultu _ _ | .sll _ _ _ | .srl _ _ _ | .sra _ _ _
  | .sllv _ _ _ | .srlv _ _ _ | .srav _ _ _ | .dsll _ _ _ | .dsrl _ _ _ | .dsra _ _ _ | .dsllv _ _ _
  | .dsrlv _ _ _ | .dsrav _ _ _ | .dsll32 _ _ _ | .dsrl32 _ _ _ | .dsra32 _ _ _ | .slt _ _ _ | .sltu _ _ _
  | .slti _ _ _ | .sltiu _ _ _ | .and _ _ _ | .or _ _ _ | .xor _ _ _ | .nor _ _ _ | .andi _ _ _ | .ori _ _ _
  | .xori _ _ _ | .lui _ _ | .mfhi _ | .mthi _ | .mflo _ | .mtlo _ | .mfc0 _ _ | .mtc0 _ _ | .dmfc0 _ _
  | .dmtc0 _ _ | .mfc1 _ _ | .mtc1 _ _ | .dmfc1 _ _ | .dmtc1 _ _ | .cfc1 _ _ | .ctc1 _ _ | .beq _ _ _
  | .bne _ _ _ | .blez _ _ | .bgtz _ _ | .bltz _ _ | .bgez _ _ | .bltzal _ _ | .bgezal _ _ | .beql _ _ _
  | .bnel _ _ _ | .blezl _ _ | .bgtzl _ _ | .bltzl _ _ | .bgezl _ _ | .bltzall _ _ | .bgezall _ _ | .bc1f _
  | .bc1t _ | .bc1fl _ | .bc1tl _ | .j _ | .jal _ | .jr _ | .jalr _ _ | .lb _ _ _ | .lbu _ _ _ | .lh _ _ _
  | .lhu _ _ _ | .lw _ _ _ | .lwu _ _ _ | .ld _ _ _ | .lwl _ _ _ | .lwr _ _ _ | .ldl _ _ _ | .ldr _ _ _
  | .sb _ _ _ | .sh _ _ _ | .sw _ _ _ | .sd _ _ _ | .swl _ _ _ | .swr _ _ _ | .sdl _ _ _ | .sdr _ _ _
  | .ll _ _ _ | .lld _ _ _ | .sc _ _ _ | .scd _ _ _ | .lwc1 _ _ _ | .ldc1 _ _ _ | .swc1 _ _ _ | .sdc1 _ _ _
  | .addS _ _ _ | .addD _ _ _ | .subS _ _ _ | .subD _ _ _ | .mulS _ _ _ | .mulD _ _ _ | .divS _ _ _
  | .divD _ _ _ | .sqrtS _ _ | .sqrtD _ _ | .absS _ _ | .absD _ _ | .movS _ _ | .movD _ _ | .negS _ _
  | .negD _ _ | .roundLS _ _ | .roundLD _ _ | .truncLS _ _ | .truncLD _ _ | .ceilLS _ _ | .ceilLD _ _
  | .floorLS _ _ | .floorLD _ _ | .roundWS _ _ | .roundWD _ _ | .truncWS _ _ | .truncWD _ _ | .ceilWS _ _
  | .ceilWD _ _ | .floorWS _ _ | .floorWD _ _ | .cvtSD _ _ | .cvtSW _ _ | .cvtSL _ _ | .cvtDS _ _ | .cvtDW _ _
  | .cvtDL _ _ | .cvtWS _ _ | .cvtWD _ _ | .cvtLS _ _ | .cvtLD _ _ | .cFS _ _ | .cFD _ _ | .cUnS _ _
  | .cUnD _ _ | .cEqS _ _ | .cEqD _ _ | .cUeqS _ _ | .cUeqD _ _ | .cOltS _ _ | .cOltD _ _ | .cUltS _ _
  | .cUltD _ _ | .cOleS _ _ | .cOleD _ _ | .cUleS _ _ | .cUleD _ _ | .cSfS _ _ | .cSfD _ _ | .cNgleS _ _
  | .cNgleD _ _ | .cSeqS _ _ | .cSeqD _ _ | .cNglS _ _ | .cNglD _ _ | .cLtS _ _ | .cLtD _ _ | .cNgeS _ _
  | .cNgeD _ _ | .cLeS _ _ | .cLeD _ _ | .cNgtS _ _ | .cNgtD _ _ | .eret | .sync | .tlbr | .tlbwi | .tlbwr
  | .tlbp | .tgei _ _ | .tgeiu _ _ | .tlti _ _ | .tltiu _ _ | .teqi _ _ | .tnei _ _ => true

end Sys2Proof
end

