-- ==== Sys2Proof/Decode.lean ====
section
/-! DEFINITION. The decoder, total on words and on bytes (R120 to R135), and the encoder, both written from the field
layout and the opcode maps of R122 to R133. Bits that a row does not name are not checked (R125). -/

namespace Sys2Proof

/-- What a word decodes to (R127): an instruction of the opcode table, or one of the three pseudo-instructions that have
no row. -/
inductive Decoded where
  | instr (i : Instr)
  | reserved
  | fpUnimplementedFormat
  | cop2
deriving DecidableEq, Repr

/-- Why a list of bytes gives no instruction: an instruction is four bytes (R120). -/
inductive DecodeError where
  | truncated
deriving DecidableEq, Repr

/-- `op`, bits 31:26 (R122). -/
def opOf (w : Word) : BitVec 6 := w.extractLsb' 26 6
/-- `rs`, bits 25:21; also `base`, `fmt` and the coprocessor sub-opcode (R122). -/
def rsOf (w : Word) : Reg := w.extractLsb' 21 5
/-- `rt`, bits 20:16; also `ft`, the REGIMM sub-opcode and the BC1 condition (R122). -/
def rtOf (w : Word) : Reg := w.extractLsb' 16 5
/-- `rd`, bits 15:11; also `fs` (R122). -/
def rdOf (w : Word) : Reg := w.extractLsb' 11 5
/-- `sa`, bits 10:6; also `fd` (R122). -/
def saOf (w : Word) : BitVec 5 := w.extractLsb' 6 5
/-- `funct`, bits 5:0 (R122). -/
def functOf (w : Word) : BitVec 6 := w.extractLsb' 0 6
/-- `imm` or `offset`, bits 15:0 (R122). -/
def immOf (w : Word) : Half := w.extractLsb' 0 16
/-- `target`, bits 25:0 (R122). -/
def targetOf (w : Word) : BitVec 26 := w.extractLsb' 0 26
/-- The software code of SYSCALL and BREAK, bits 25:6 (R122). -/
def codeOf (w : Word) : BitVec 20 := w.extractLsb' 6 20
/-- The software code of a register trap, bits 15:6 (R122). -/
def trapCodeOf (w : Word) : BitVec 10 := w.extractLsb' 6 10

/-- The SPECIAL map (R129). -/
def decodeSpecial (w : Word) : Decoded :=
  match functOf w with
  | 0#6 => .instr (.sll (rdOf w) (rtOf w) (saOf w))
  | 2#6 => .instr (.srl (rdOf w) (rtOf w) (saOf w))
  | 3#6 => .instr (.sra (rdOf w) (rtOf w) (saOf w))
  | 4#6 => .instr (.sllv (rdOf w) (rtOf w) (rsOf w))
  | 6#6 => .instr (.srlv (rdOf w) (rtOf w) (rsOf w))
  | 7#6 => .instr (.srav (rdOf w) (rtOf w) (rsOf w))
  | 8#6 => .instr (.jr (rsOf w))
  | 9#6 => .instr (.jalr (rdOf w) (rsOf w))
  | 12#6 => .instr (.syscall (codeOf w).toNat)
  | 13#6 => .instr (.brk (codeOf w).toNat)
  | 15#6 => .instr .sync
  | 16#6 => .instr (.mfhi (rdOf w))
  | 17#6 => .instr (.mthi (rsOf w))
  | 18#6 => .instr (.mflo (rdOf w))
  | 19#6 => .instr (.mtlo (rsOf w))
  | 20#6 => .instr (.dsllv (rdOf w) (rtOf w) (rsOf w))
  | 22#6 => .instr (.dsrlv (rdOf w) (rtOf w) (rsOf w))
  | 23#6 => .instr (.dsrav (rdOf w) (rtOf w) (rsOf w))
  | 24#6 => .instr (.mult (rsOf w) (rtOf w))
  | 25#6 => .instr (.multu (rsOf w) (rtOf w))
  | 26#6 => .instr (.div (rsOf w) (rtOf w))
  | 27#6 => .instr (.divu (rsOf w) (rtOf w))
  | 28#6 => .instr (.dmult (rsOf w) (rtOf w))
  | 29#6 => .instr (.dmultu (rsOf w) (rtOf w))
  | 30#6 => .instr (.ddiv (rsOf w) (rtOf w))
  | 31#6 => .instr (.ddivu (rsOf w) (rtOf w))
  | 32#6 => .instr (.add (rdOf w) (rsOf w) (rtOf w))
  | 33#6 => .instr (.addu (rdOf w) (rsOf w) (rtOf w))
  | 34#6 => .instr (.sub (rdOf w) (rsOf w) (rtOf w))
  | 35#6 => .instr (.subu (rdOf w) (rsOf w) (rtOf w))
  | 36#6 => .instr (.and (rdOf w) (rsOf w) (rtOf w))
  | 37#6 => .instr (.or (rdOf w) (rsOf w) (rtOf w))
  | 38#6 => .instr (.xor (rdOf w) (rsOf w) (rtOf w))
  | 39#6 => .instr (.nor (rdOf w) (rsOf w) (rtOf w))
  | 42#6 => .instr (.slt (rdOf w) (rsOf w) (rtOf w))
  | 43#6 => .instr (.sltu (rdOf w) (rsOf w) (rtOf w))
  | 44#6 => .instr (.dadd (rdOf w) (rsOf w) (rtOf w))
  | 45#6 => .instr (.daddu (rdOf w) (rsOf w) (rtOf w))
  | 46#6 => .instr (.dsub (rdOf w) (rsOf w) (rtOf w))
  | 47#6 => .instr (.dsubu (rdOf w) (rsOf w) (rtOf w))
  | 48#6 => .instr (.tge (rsOf w) (rtOf w) (trapCodeOf w).toNat)
  | 49#6 => .instr (.tgeu (rsOf w) (rtOf w) (trapCodeOf w).toNat)
  | 50#6 => .instr (.tlt (rsOf w) (rtOf w) (trapCodeOf w).toNat)
  | 51#6 => .instr (.tltu (rsOf w) (rtOf w) (trapCodeOf w).toNat)
  | 52#6 => .instr (.teq (rsOf w) (rtOf w) (trapCodeOf w).toNat)
  | 54#6 => .instr (.tne (rsOf w) (rtOf w) (trapCodeOf w).toNat)
  | 56#6 => .instr (.dsll (rdOf w) (rtOf w) (saOf w))
  | 58#6 => .instr (.dsrl (rdOf w) (rtOf w) (saOf w))
  | 59#6 => .instr (.dsra (rdOf w) (rtOf w) (saOf w))
  | 60#6 => .instr (.dsll32 (rdOf w) (rtOf w) (saOf w))
  | 62#6 => .instr (.dsrl32 (rdOf w) (rtOf w) (saOf w))
  | 63#6 => .instr (.dsra32 (rdOf w) (rtOf w) (saOf w))
  | _ => .reserved

/-- The REGIMM map (R130). -/
def decodeRegimm (w : Word) : Decoded :=
  match rtOf w with
  | 0#5 => .instr (.bltz (rsOf w) (immOf w))
  | 1#5 => .instr (.bgez (rsOf w) (immOf w))
  | 2#5 => .instr (.bltzl (rsOf w) (immOf w))
  | 3#5 => .instr (.bgezl (rsOf w) (immOf w))
  | 8#5 => .instr (.tgei (rsOf w) (immOf w))
  | 9#5 => .instr (.tgeiu (rsOf w) (immOf w))
  | 10#5 => .instr (.tlti (rsOf w) (immOf w))
  | 11#5 => .instr (.tltiu (rsOf w) (immOf w))
  | 12#5 => .instr (.teqi (rsOf w) (immOf w))
  | 14#5 => .instr (.tnei (rsOf w) (immOf w))
  | 16#5 => .instr (.bltzal (rsOf w) (immOf w))
  | 17#5 => .instr (.bgezal (rsOf w) (immOf w))
  | 18#5 => .instr (.bltzall (rsOf w) (immOf w))
  | 19#5 => .instr (.bgezall (rsOf w) (immOf w))
  | _ => .reserved

/-- The COP0 move map (R131). -/
def decodeCop0Move (w : Word) : Decoded :=
  match rsOf w with
  | 0#5 => .instr (.mfc0 (rtOf w) (rdOf w))
  | 1#5 => .instr (.dmfc0 (rtOf w) (rdOf w))
  | 4#5 => .instr (.mtc0 (rtOf w) (rdOf w))
  | 5#5 => .instr (.dmtc0 (rtOf w) (rdOf w))
  | _ => .reserved

/-- The COP0 function map (R131). -/
def decodeCop0Function (w : Word) : Decoded :=
  match functOf w with
  | 1#6 => .instr .tlbr
  | 2#6 => .instr .tlbwi
  | 6#6 => .instr .tlbwr
  | 8#6 => .instr .tlbp
  | 24#6 => .instr .eret
  | _ => .reserved

/-- The COP0 maps: bit 25 selects the function map (R127, R131). -/
def decodeCop0 (w : Word) : Decoded :=
  if w.getLsbD 25 then decodeCop0Function w else decodeCop0Move w

/-- The BC1 map (R132). -/
def decodeBc1 (w : Word) : Decoded :=
  match rtOf w with
  | 0#5 => .instr (.bc1f (immOf w))
  | 1#5 => .instr (.bc1t (immOf w))
  | 2#5 => .instr (.bc1fl (immOf w))
  | 3#5 => .instr (.bc1tl (immOf w))
  | _ => .reserved

/-- The COP1 function map for `fmt` = S (R133): a function of the table that does not take this format decodes to
`FpUnimplementedFormat`. -/
def decodeCop1S (w : Word) : Decoded :=
  match functOf w with
  | 0#6 => .instr (.addS (saOf w) (rdOf w) (rtOf w))
  | 1#6 => .instr (.subS (saOf w) (rdOf w) (rtOf w))
  | 2#6 => .instr (.mulS (saOf w) (rdOf w) (rtOf w))
  | 3#6 => .instr (.divS (saOf w) (rdOf w) (rtOf w))
  | 4#6 => .instr (.sqrtS (saOf w) (rdOf w))
  | 5#6 => .instr (.absS (saOf w) (rdOf w))
  | 6#6 => .instr (.movS (saOf w) (rdOf w))
  | 7#6 => .instr (.negS (saOf w) (rdOf w))
  | 8#6 => .instr (.roundLS (saOf w) (rdOf w))
  | 9#6 => .instr (.truncLS (saOf w) (rdOf w))
  | 10#6 => .instr (.ceilLS (saOf w) (rdOf w))
  | 11#6 => .instr (.floorLS (saOf w) (rdOf w))
  | 12#6 => .instr (.roundWS (saOf w) (rdOf w))
  | 13#6 => .instr (.truncWS (saOf w) (rdOf w))
  | 14#6 => .instr (.ceilWS (saOf w) (rdOf w))
  | 15#6 => .instr (.floorWS (saOf w) (rdOf w))
  | 32#6 => .fpUnimplementedFormat
  | 33#6 => .instr (.cvtDS (saOf w) (rdOf w))
  | 36#6 => .instr (.cvtWS (saOf w) (rdOf w))
  | 37#6 => .instr (.cvtLS (saOf w) (rdOf w))
  | 48#6 => .instr (.cFS (rdOf w) (rtOf w))
  | 49#6 => .instr (.cUnS (rdOf w) (rtOf w))
  | 50#6 => .instr (.cEqS (rdOf w) (rtOf w))
  | 51#6 => .instr (.cUeqS (rdOf w) (rtOf w))
  | 52#6 => .instr (.cOltS (rdOf w) (rtOf w))
  | 53#6 => .instr (.cUltS (rdOf w) (rtOf w))
  | 54#6 => .instr (.cOleS (rdOf w) (rtOf w))
  | 55#6 => .instr (.cUleS (rdOf w) (rtOf w))
  | 56#6 => .instr (.cSfS (rdOf w) (rtOf w))
  | 57#6 => .instr (.cNgleS (rdOf w) (rtOf w))
  | 58#6 => .instr (.cSeqS (rdOf w) (rtOf w))
  | 59#6 => .instr (.cNglS (rdOf w) (rtOf w))
  | 60#6 => .instr (.cLtS (rdOf w) (rtOf w))
  | 61#6 => .instr (.cNgeS (rdOf w) (rtOf w))
  | 62#6 => .instr (.cLeS (rdOf w) (rtOf w))
  | 63#6 => .instr (.cNgtS (rdOf w) (rtOf w))
  | _ => .reserved

/-- The COP1 function map for `fmt` = D (R133): a function of the table that does not take this format decodes to
`FpUnimplementedFormat`. -/
def decodeCop1D (w : Word) : Decoded :=
  match functOf w with
  | 0#6 => .instr (.addD (saOf w) (rdOf w) (rtOf w))
  | 1#6 => .instr (.subD (saOf w) (rdOf w) (rtOf w))
  | 2#6 => .instr (.mulD (saOf w) (rdOf w) (rtOf w))
  | 3#6 => .instr (.divD (saOf w) (rdOf w) (rtOf w))
  | 4#6 => .instr (.sqrtD (saOf w) (rdOf w))
  | 5#6 => .instr (.absD (saOf w) (rdOf w))
  | 6#6 => .instr (.movD (saOf w) (rdOf w))
  | 7#6 => .instr (.negD (saOf w) (rdOf w))
  | 8#6 => .instr (.roundLD (saOf w) (rdOf w))
  | 9#6 => .instr (.truncLD (saOf w) (rdOf w))
  | 10#6 => .instr (.ceilLD (saOf w) (rdOf w))
  | 11#6 => .instr (.floorLD (saOf w) (rdOf w))
  | 12#6 => .instr (.roundWD (saOf w) (rdOf w))
  | 13#6 => .instr (.truncWD (saOf w) (rdOf w))
  | 14#6 => .instr (.ceilWD (saOf w) (rdOf w))
  | 15#6 => .instr (.floorWD (saOf w) (rdOf w))
  | 32#6 => .instr (.cvtSD (saOf w) (rdOf w))
  | 33#6 => .fpUnimplementedFormat
  | 36#6 => .instr (.cvtWD (saOf w) (rdOf w))
  | 37#6 => .instr (.cvtLD (saOf w) (rdOf w))
  | 48#6 => .instr (.cFD (rdOf w) (rtOf w))
  | 49#6 => .instr (.cUnD (rdOf w) (rtOf w))
  | 50#6 => .instr (.cEqD (rdOf w) (rtOf w))
  | 51#6 => .instr (.cUeqD (rdOf w) (rtOf w))
  | 52#6 => .instr (.cOltD (rdOf w) (rtOf w))
  | 53#6 => .instr (.cUltD (rdOf w) (rtOf w))
  | 54#6 => .instr (.cOleD (rdOf w) (rtOf w))
  | 55#6 => .instr (.cUleD (rdOf w) (rtOf w))
  | 56#6 => .instr (.cSfD (rdOf w) (rtOf w))
  | 57#6 => .instr (.cNgleD (rdOf w) (rtOf w))
  | 58#6 => .instr (.cSeqD (rdOf w) (rtOf w))
  | 59#6 => .instr (.cNglD (rdOf w) (rtOf w))
  | 60#6 => .instr (.cLtD (rdOf w) (rtOf w))
  | 61#6 => .instr (.cNgeD (rdOf w) (rtOf w))
  | 62#6 => .instr (.cLeD (rdOf w) (rtOf w))
  | 63#6 => .instr (.cNgtD (rdOf w) (rtOf w))
  | _ => .reserved

/-- The COP1 function map for `fmt` = W (R133): a function of the table that does not take this format decodes to
`FpUnimplementedFormat`. -/
def decodeCop1W (w : Word) : Decoded :=
  match functOf w with
  | 32#6 => .instr (.cvtSW (saOf w) (rdOf w))
  | 33#6 => .instr (.cvtDW (saOf w) (rdOf w))
  | 0#6 | 1#6 | 2#6 | 3#6 | 4#6 | 5#6 | 6#6 | 7#6 | 8#6 | 9#6 | 10#6 | 11#6 | 12#6 | 13#6 | 14#6
  | 15#6 | 36#6 | 37#6 | 48#6 | 49#6 | 50#6 | 51#6 | 52#6 | 53#6 | 54#6 | 55#6 | 56#6 | 57#6 | 58#6
  | 59#6 | 60#6 | 61#6 | 62#6 | 63#6 => .fpUnimplementedFormat
  | _ => .reserved

/-- The COP1 function map for `fmt` = L (R133): a function of the table that does not take this format decodes to
`FpUnimplementedFormat`. -/
def decodeCop1L (w : Word) : Decoded :=
  match functOf w with
  | 32#6 => .instr (.cvtSL (saOf w) (rdOf w))
  | 33#6 => .instr (.cvtDL (saOf w) (rdOf w))
  | 0#6 | 1#6 | 2#6 | 3#6 | 4#6 | 5#6 | 6#6 | 7#6 | 8#6 | 9#6 | 10#6 | 11#6 | 12#6 | 13#6 | 14#6
  | 15#6 | 36#6 | 37#6 | 48#6 | 49#6 | 50#6 | 51#6 | 52#6 | 53#6 | 54#6 | 55#6 | 56#6 | 57#6 | 58#6
  | 59#6 | 60#6 | 61#6 | 62#6 | 63#6 => .fpUnimplementedFormat
  | _ => .reserved

/-- The COP1 maps, by `rs` (R127, R132, R133). -/
def decodeCop1 (w : Word) : Decoded :=
  match rsOf w with
  | 0#5 => .instr (.mfc1 (rtOf w) (rdOf w))
  | 1#5 => .instr (.dmfc1 (rtOf w) (rdOf w))
  | 2#5 => .instr (.cfc1 (rtOf w) (rdOf w))
  | 4#5 => .instr (.mtc1 (rtOf w) (rdOf w))
  | 5#5 => .instr (.dmtc1 (rtOf w) (rdOf w))
  | 6#5 => .instr (.ctc1 (rtOf w) (rdOf w))
  | 8#5 => decodeBc1 w
  | 16#5 => decodeCop1S w
  | 17#5 => decodeCop1D w
  | 20#5 => decodeCop1W w
  | 21#5 => decodeCop1L w
  | _ => .reserved

/-- `Decode` (R127): the primary map (R128) and the maps below it. -/
def decode (w : Word) : Decoded :=
  match opOf w with
  | 0#6 => decodeSpecial w
  | 1#6 => decodeRegimm w
  | 16#6 => decodeCop0 w
  | 17#6 => decodeCop1 w
  | 18#6 => .cop2
  | 2#6 => .instr (.j (targetOf w))
  | 3#6 => .instr (.jal (targetOf w))
  | 4#6 => .instr (.beq (rsOf w) (rtOf w) (immOf w))
  | 5#6 => .instr (.bne (rsOf w) (rtOf w) (immOf w))
  | 6#6 => .instr (.blez (rsOf w) (immOf w))
  | 7#6 => .instr (.bgtz (rsOf w) (immOf w))
  | 8#6 => .instr (.addi (rtOf w) (rsOf w) (immOf w))
  | 9#6 => .instr (.addiu (rtOf w) (rsOf w) (immOf w))
  | 10#6 => .instr (.slti (rtOf w) (rsOf w) (immOf w))
  | 11#6 => .instr (.sltiu (rtOf w) (rsOf w) (immOf w))
  | 12#6 => .instr (.andi (rtOf w) (rsOf w) (immOf w))
  | 13#6 => .instr (.ori (rtOf w) (rsOf w) (immOf w))
  | 14#6 => .instr (.xori (rtOf w) (rsOf w) (immOf w))
  | 15#6 => .instr (.lui (rtOf w) (immOf w))
  | 20#6 => .instr (.beql (rsOf w) (rtOf w) (immOf w))
  | 21#6 => .instr (.bnel (rsOf w) (rtOf w) (immOf w))
  | 22#6 => .instr (.blezl (rsOf w) (immOf w))
  | 23#6 => .instr (.bgtzl (rsOf w) (immOf w))
  | 24#6 => .instr (.daddi (rtOf w) (rsOf w) (immOf w))
  | 25#6 => .instr (.daddiu (rtOf w) (rsOf w) (immOf w))
  | 26#6 => .instr (.ldl (rtOf w) (rsOf w) (immOf w))
  | 27#6 => .instr (.ldr (rtOf w) (rsOf w) (immOf w))
  | 32#6 => .instr (.lb (rtOf w) (rsOf w) (immOf w))
  | 33#6 => .instr (.lh (rtOf w) (rsOf w) (immOf w))
  | 34#6 => .instr (.lwl (rtOf w) (rsOf w) (immOf w))
  | 35#6 => .instr (.lw (rtOf w) (rsOf w) (immOf w))
  | 36#6 => .instr (.lbu (rtOf w) (rsOf w) (immOf w))
  | 37#6 => .instr (.lhu (rtOf w) (rsOf w) (immOf w))
  | 38#6 => .instr (.lwr (rtOf w) (rsOf w) (immOf w))
  | 39#6 => .instr (.lwu (rtOf w) (rsOf w) (immOf w))
  | 40#6 => .instr (.sb (rtOf w) (rsOf w) (immOf w))
  | 41#6 => .instr (.sh (rtOf w) (rsOf w) (immOf w))
  | 42#6 => .instr (.swl (rtOf w) (rsOf w) (immOf w))
  | 43#6 => .instr (.sw (rtOf w) (rsOf w) (immOf w))
  | 44#6 => .instr (.sdl (rtOf w) (rsOf w) (immOf w))
  | 45#6 => .instr (.sdr (rtOf w) (rsOf w) (immOf w))
  | 46#6 => .instr (.swr (rtOf w) (rsOf w) (immOf w))
  | 47#6 => .instr (.cache (rtOf w).toNat (rsOf w) (immOf w))
  | 48#6 => .instr (.ll (rtOf w) (rsOf w) (immOf w))
  | 49#6 => .instr (.lwc1 (rtOf w) (rsOf w) (immOf w))
  | 52#6 => .instr (.lld (rtOf w) (rsOf w) (immOf w))
  | 53#6 => .instr (.ldc1 (rtOf w) (rsOf w) (immOf w))
  | 55#6 => .instr (.ld (rtOf w) (rsOf w) (immOf w))
  | 56#6 => .instr (.sc (rtOf w) (rsOf w) (immOf w))
  | 57#6 => .instr (.swc1 (rtOf w) (rsOf w) (immOf w))
  | 60#6 => .instr (.scd (rtOf w) (rsOf w) (immOf w))
  | 61#6 => .instr (.sdc1 (rtOf w) (rsOf w) (immOf w))
  | 63#6 => .instr (.sd (rtOf w) (rsOf w) (immOf w))
  | _ => .reserved

/-- The word of four bytes, the byte at the lowest address most significant (R90, R98). -/
def wordOfBytes (b0 b1 b2 b3 : Byte) : Word := b0 ++ b1 ++ b2 ++ b3

/-- The four bytes of a word, in address order (R90). -/
def bytesOfWord (w : Word) : List Byte :=
  [w.extractLsb' 24 8, w.extractLsb' 16 8, w.extractLsb' 8 8, w.extractLsb' 0 8]

/-- Decoding from bytes: the first four give the instruction, the others are left. -/
def decodeBytes : List Byte → Except DecodeError (Decoded × List Byte)
  | b0 :: b1 :: b2 :: b3 :: rest => .ok (decode (wordOfBytes b0 b1 b2 b3), rest)
  | _ => .error .truncated

/-- R type (R123). -/
def rForm (op : BitVec 6) (rs rt rd : Reg) (sa : BitVec 5) (funct : BitVec 6) : Word :=
  op ++ rs ++ rt ++ rd ++ sa ++ funct
/-- I type (R123). -/
def iForm (op : BitVec 6) (rs rt : Reg) (imm : Half) : Word := op ++ rs ++ rt ++ imm
/-- J type (R123). -/
def jForm (op : BitVec 6) (target : BitVec 26) : Word := op ++ target
/-- SYSCALL and BREAK: a 20-bit software code between `op` = 0 and `funct` (R122). -/
def codeForm (code : Nat) (funct : BitVec 6) : Word := 0#6 ++ BitVec.ofNat 20 code ++ funct
/-- A register trap: a 10-bit software code between `rt` and `funct` (R122). -/
def trapForm (rs rt : Reg) (code : Nat) (funct : BitVec 6) : Word :=
  0#6 ++ rs ++ rt ++ BitVec.ofNat 10 code ++ funct

/-- The word of an instruction: the match bits of its row, its operands, and zero in every ignored field (R125). -/
def encode (i : Instr) : Word :=
  match i with
  | .add rd rs rt => rForm 0 rs rt rd 0 32
  | .addu rd rs rt => rForm 0 rs rt rd 0 33
  | .sub rd rs rt => rForm 0 rs rt rd 0 34
  | .subu rd rs rt => rForm 0 rs rt rd 0 35
  | .addi rt rs imm => iForm 8 rs rt imm
  | .addiu rt rs imm => iForm 9 rs rt imm
  | .dadd rd rs rt => rForm 0 rs rt rd 0 44
  | .daddu rd rs rt => rForm 0 rs rt rd 0 45
  | .dsub rd rs rt => rForm 0 rs rt rd 0 46
  | .dsubu rd rs rt => rForm 0 rs rt rd 0 47
  | .daddi rt rs imm => iForm 24 rs rt imm
  | .daddiu rt rs imm => iForm 25 rs rt imm
  | .div rs rt => rForm 0 rs rt 0 0 26
  | .divu rs rt => rForm 0 rs rt 0 0 27
  | .ddiv rs rt => rForm 0 rs rt 0 0 30
  | .ddivu rs rt => rForm 0 rs rt 0 0 31
  | .mult rs rt => rForm 0 rs rt 0 0 24
  | .multu rs rt => rForm 0 rs rt 0 0 25
  | .dmult rs rt => rForm 0 rs rt 0 0 28
  | .dmultu rs rt => rForm 0 rs rt 0 0 29
  | .sll rd rt sa => rForm 0 0 rt rd sa 0
  | .srl rd rt sa => rForm 0 0 rt rd sa 2
  | .sra rd rt sa => rForm 0 0 rt rd sa 3
  | .sllv rd rt rs => rForm 0 rs rt rd 0 4
  | .srlv rd rt rs => rForm 0 rs rt rd 0 6
  | .srav rd rt rs => rForm 0 rs rt rd 0 7
  | .dsll rd rt sa => rForm 0 0 rt rd sa 56
  | .dsrl rd rt sa => rForm 0 0 rt rd sa 58
  | .dsra rd rt sa => rForm 0 0 rt rd sa 59
  | .dsllv rd rt rs => rForm 0 rs rt rd 0 20
  | .dsrlv rd rt rs => rForm 0 rs rt rd 0 22
  | .dsrav rd rt rs => rForm 0 rs rt rd 0 23
  | .dsll32 rd rt sa => rForm 0 0 rt rd sa 60
  | .dsrl32 rd rt sa => rForm 0 0 rt rd sa 62
  | .dsra32 rd rt sa => rForm 0 0 rt rd sa 63
  | .slt rd rs rt => rForm 0 rs rt rd 0 42
  | .sltu rd rs rt => rForm 0 rs rt rd 0 43
  | .slti rt rs imm => iForm 10 rs rt imm
  | .sltiu rt rs imm => iForm 11 rs rt imm
  | .and rd rs rt => rForm 0 rs rt rd 0 36
  | .or rd rs rt => rForm 0 rs rt rd 0 37
  | .xor rd rs rt => rForm 0 rs rt rd 0 38
  | .nor rd rs rt => rForm 0 rs rt rd 0 39
  | .andi rt rs imm => iForm 12 rs rt imm
  | .ori rt rs imm => iForm 13 rs rt imm
  | .xori rt rs imm => iForm 14 rs rt imm
  | .lui rt imm => iForm 15 0 rt imm
  | .mfhi rd => rForm 0 0 0 rd 0 16
  | .mthi rs => rForm 0 rs 0 0 0 17
  | .mflo rd => rForm 0 0 0 rd 0 18
  | .mtlo rs => rForm 0 rs 0 0 0 19
  | .mfc0 rt rd => rForm 16 0 rt rd 0 0
  | .mtc0 rt rd => rForm 16 4 rt rd 0 0
  | .dmfc0 rt rd => rForm 16 1 rt rd 0 0
  | .dmtc0 rt rd => rForm 16 5 rt rd 0 0
  | .mfc1 rt fs => rForm 17 0 rt fs 0 0
  | .mtc1 rt fs => rForm 17 4 rt fs 0 0
  | .dmfc1 rt fs => rForm 17 1 rt fs 0 0
  | .dmtc1 rt fs => rForm 17 5 rt fs 0 0
  | .cfc1 rt fs => rForm 17 2 rt fs 0 0
  | .ctc1 rt fs => rForm 17 6 rt fs 0 0
  | .beq rs rt offset => iForm 4 rs rt offset
  | .bne rs rt offset => iForm 5 rs rt offset
  | .blez rs offset => iForm 6 rs 0 offset
  | .bgtz rs offset => iForm 7 rs 0 offset
  | .bltz rs offset => iForm 1 rs 0 offset
  | .bgez rs offset => iForm 1 rs 1 offset
  | .bltzal rs offset => iForm 1 rs 16 offset
  | .bgezal rs offset => iForm 1 rs 17 offset
  | .beql rs rt offset => iForm 20 rs rt offset
  | .bnel rs rt offset => iForm 21 rs rt offset
  | .blezl rs offset => iForm 22 rs 0 offset
  | .bgtzl rs offset => iForm 23 rs 0 offset
  | .bltzl rs offset => iForm 1 rs 2 offset
  | .bgezl rs offset => iForm 1 rs 3 offset
  | .bltzall rs offset => iForm 1 rs 18 offset
  | .bgezall rs offset => iForm 1 rs 19 offset
  | .bc1f offset => iForm 17 8 0 offset
  | .bc1t offset => iForm 17 8 1 offset
  | .bc1fl offset => iForm 17 8 2 offset
  | .bc1tl offset => iForm 17 8 3 offset
  | .j target => jForm 2 target
  | .jal target => jForm 3 target
  | .jr rs => rForm 0 rs 0 0 0 8
  | .jalr rd rs => rForm 0 rs 0 rd 0 9
  | .lb rt base offset => iForm 32 base rt offset
  | .lbu rt base offset => iForm 36 base rt offset
  | .lh rt base offset => iForm 33 base rt offset
  | .lhu rt base offset => iForm 37 base rt offset
  | .lw rt base offset => iForm 35 base rt offset
  | .lwu rt base offset => iForm 39 base rt offset
  | .ld rt base offset => iForm 55 base rt offset
  | .lwl rt base offset => iForm 34 base rt offset
  | .lwr rt base offset => iForm 38 base rt offset
  | .ldl rt base offset => iForm 26 base rt offset
  | .ldr rt base offset => iForm 27 base rt offset
  | .sb rt base offset => iForm 40 base rt offset
  | .sh rt base offset => iForm 41 base rt offset
  | .sw rt base offset => iForm 43 base rt offset
  | .sd rt base offset => iForm 63 base rt offset
  | .swl rt base offset => iForm 42 base rt offset
  | .swr rt base offset => iForm 46 base rt offset
  | .sdl rt base offset => iForm 44 base rt offset
  | .sdr rt base offset => iForm 45 base rt offset
  | .ll rt base offset => iForm 48 base rt offset
  | .lld rt base offset => iForm 52 base rt offset
  | .sc rt base offset => iForm 56 base rt offset
  | .scd rt base offset => iForm 60 base rt offset
  | .lwc1 ft base offset => iForm 49 base ft offset
  | .ldc1 ft base offset => iForm 53 base ft offset
  | .swc1 ft base offset => iForm 57 base ft offset
  | .sdc1 ft base offset => iForm 61 base ft offset
  | .addS fd fs ft => rForm 17 16 ft fs fd 0
  | .addD fd fs ft => rForm 17 17 ft fs fd 0
  | .subS fd fs ft => rForm 17 16 ft fs fd 1
  | .subD fd fs ft => rForm 17 17 ft fs fd 1
  | .mulS fd fs ft => rForm 17 16 ft fs fd 2
  | .mulD fd fs ft => rForm 17 17 ft fs fd 2
  | .divS fd fs ft => rForm 17 16 ft fs fd 3
  | .divD fd fs ft => rForm 17 17 ft fs fd 3
  | .sqrtS fd fs => rForm 17 16 0 fs fd 4
  | .sqrtD fd fs => rForm 17 17 0 fs fd 4
  | .absS fd fs => rForm 17 16 0 fs fd 5
  | .absD fd fs => rForm 17 17 0 fs fd 5
  | .movS fd fs => rForm 17 16 0 fs fd 6
  | .movD fd fs => rForm 17 17 0 fs fd 6
  | .negS fd fs => rForm 17 16 0 fs fd 7
  | .negD fd fs => rForm 17 17 0 fs fd 7
  | .roundLS fd fs => rForm 17 16 0 fs fd 8
  | .roundLD fd fs => rForm 17 17 0 fs fd 8
  | .truncLS fd fs => rForm 17 16 0 fs fd 9
  | .truncLD fd fs => rForm 17 17 0 fs fd 9
  | .ceilLS fd fs => rForm 17 16 0 fs fd 10
  | .ceilLD fd fs => rForm 17 17 0 fs fd 10
  | .floorLS fd fs => rForm 17 16 0 fs fd 11
  | .floorLD fd fs => rForm 17 17 0 fs fd 11
  | .roundWS fd fs => rForm 17 16 0 fs fd 12
  | .roundWD fd fs => rForm 17 17 0 fs fd 12
  | .truncWS fd fs => rForm 17 16 0 fs fd 13
  | .truncWD fd fs => rForm 17 17 0 fs fd 13
  | .ceilWS fd fs => rForm 17 16 0 fs fd 14
  | .ceilWD fd fs => rForm 17 17 0 fs fd 14
  | .floorWS fd fs => rForm 17 16 0 fs fd 15
  | .floorWD fd fs => rForm 17 17 0 fs fd 15
  | .cvtSD fd fs => rForm 17 17 0 fs fd 32
  | .cvtSW fd fs => rForm 17 20 0 fs fd 32
  | .cvtSL fd fs => rForm 17 21 0 fs fd 32
  | .cvtDS fd fs => rForm 17 16 0 fs fd 33
  | .cvtDW fd fs => rForm 17 20 0 fs fd 33
  | .cvtDL fd fs => rForm 17 21 0 fs fd 33
  | .cvtWS fd fs => rForm 17 16 0 fs fd 36
  | .cvtWD fd fs => rForm 17 17 0 fs fd 36
  | .cvtLS fd fs => rForm 17 16 0 fs fd 37
  | .cvtLD fd fs => rForm 17 17 0 fs fd 37
  | .cFS fs ft => rForm 17 16 ft fs 0 48
  | .cFD fs ft => rForm 17 17 ft fs 0 48
  | .cUnS fs ft => rForm 17 16 ft fs 0 49
  | .cUnD fs ft => rForm 17 17 ft fs 0 49
  | .cEqS fs ft => rForm 17 16 ft fs 0 50
  | .cEqD fs ft => rForm 17 17 ft fs 0 50
  | .cUeqS fs ft => rForm 17 16 ft fs 0 51
  | .cUeqD fs ft => rForm 17 17 ft fs 0 51
  | .cOltS fs ft => rForm 17 16 ft fs 0 52
  | .cOltD fs ft => rForm 17 17 ft fs 0 52
  | .cUltS fs ft => rForm 17 16 ft fs 0 53
  | .cUltD fs ft => rForm 17 17 ft fs 0 53
  | .cOleS fs ft => rForm 17 16 ft fs 0 54
  | .cOleD fs ft => rForm 17 17 ft fs 0 54
  | .cUleS fs ft => rForm 17 16 ft fs 0 55
  | .cUleD fs ft => rForm 17 17 ft fs 0 55
  | .cSfS fs ft => rForm 17 16 ft fs 0 56
  | .cSfD fs ft => rForm 17 17 ft fs 0 56
  | .cNgleS fs ft => rForm 17 16 ft fs 0 57
  | .cNgleD fs ft => rForm 17 17 ft fs 0 57
  | .cSeqS fs ft => rForm 17 16 ft fs 0 58
  | .cSeqD fs ft => rForm 17 17 ft fs 0 58
  | .cNglS fs ft => rForm 17 16 ft fs 0 59
  | .cNglD fs ft => rForm 17 17 ft fs 0 59
  | .cLtS fs ft => rForm 17 16 ft fs 0 60
  | .cLtD fs ft => rForm 17 17 ft fs 0 60
  | .cNgeS fs ft => rForm 17 16 ft fs 0 61
  | .cNgeD fs ft => rForm 17 17 ft fs 0 61
  | .cLeS fs ft => rForm 17 16 ft fs 0 62
  | .cLeD fs ft => rForm 17 17 ft fs 0 62
  | .cNgtS fs ft => rForm 17 16 ft fs 0 63
  | .cNgtD fs ft => rForm 17 17 ft fs 0 63
  | .eret => rForm 16 16 0 0 0 24
  | .syscall code => codeForm code 12
  | .brk code => codeForm code 13
  | .sync => rForm 0 0 0 0 0 15
  | .cache cacheop base offset => iForm 47 base (BitVec.ofNat 5 cacheop) offset
  | .tlbr => rForm 16 16 0 0 0 1
  | .tlbwi => rForm 16 16 0 0 0 2
  | .tlbwr => rForm 16 16 0 0 0 6
  | .tlbp => rForm 16 16 0 0 0 8
  | .tge rs rt code => trapForm rs rt code 48
  | .tgeu rs rt code => trapForm rs rt code 49
  | .tlt rs rt code => trapForm rs rt code 50
  | .tltu rs rt code => trapForm rs rt code 51
  | .teq rs rt code => trapForm rs rt code 52
  | .tne rs rt code => trapForm rs rt code 54
  | .tgei rs imm => iForm 1 rs 8 imm
  | .tgeiu rs imm => iForm 1 rs 9 imm
  | .tlti rs imm => iForm 1 rs 10 imm
  | .tltiu rs imm => iForm 1 rs 11 imm
  | .teqi rs imm => iForm 1 rs 12 imm
  | .tnei rs imm => iForm 1 rs 14 imm

/-- The instruction the decoder reads from a word of the opcode table: the bytes are laid out as the hardware stores them
and given to the decoder. -/
def decodeTableWord (nbits w : Nat) : Option Instr :=
  match decodeBytes (bytesOfWord (BitVec.ofNat 32 (w % 2 ^ nbits))) with
  | .ok (.instr i, _) => some i
  | _ => none

/-- The row of the opcode table an instruction stands for: its mask and its match bits (R141). -/
def Instr.row (i : Instr) : Word × Word :=
  match i with
  | .add .. => (0xFC00003F#32, 0x00000020#32)
  | .addu .. => (0xFC00003F#32, 0x00000021#32)
  | .sub .. => (0xFC00003F#32, 0x00000022#32)
  | .subu .. => (0xFC00003F#32, 0x00000023#32)
  | .addi .. => (0xFC000000#32, 0x20000000#32)
  | .addiu .. => (0xFC000000#32, 0x24000000#32)
  | .dadd .. => (0xFC00003F#32, 0x0000002C#32)
  | .daddu .. => (0xFC00003F#32, 0x0000002D#32)
  | .dsub .. => (0xFC00003F#32, 0x0000002E#32)
  | .dsubu .. => (0xFC00003F#32, 0x0000002F#32)
  | .daddi .. => (0xFC000000#32, 0x60000000#32)
  | .daddiu .. => (0xFC000000#32, 0x64000000#32)
  | .div .. => (0xFC00003F#32, 0x0000001A#32)
  | .divu .. => (0xFC00003F#32, 0x0000001B#32)
  | .ddiv .. => (0xFC00003F#32, 0x0000001E#32)
  | .ddivu .. => (0xFC00003F#32, 0x0000001F#32)
  | .mult .. => (0xFC00003F#32, 0x00000018#32)
  | .multu .. => (0xFC00003F#32, 0x00000019#32)
  | .dmult .. => (0xFC00003F#32, 0x0000001C#32)
  | .dmultu .. => (0xFC00003F#32, 0x0000001D#32)
  | .sll .. => (0xFC00003F#32, 0x00000000#32)
  | .srl .. => (0xFC00003F#32, 0x00000002#32)
  | .sra .. => (0xFC00003F#32, 0x00000003#32)
  | .sllv .. => (0xFC00003F#32, 0x00000004#32)
  | .srlv .. => (0xFC00003F#32, 0x00000006#32)
  | .srav .. => (0xFC00003F#32, 0x00000007#32)
  | .dsll .. => (0xFC00003F#32, 0x00000038#32)
  | .dsrl .. => (0xFC00003F#32, 0x0000003A#32)
  | .dsra .. => (0xFC00003F#32, 0x0000003B#32)
  | .dsllv .. => (0xFC00003F#32, 0x00000014#32)
  | .dsrlv .. => (0xFC00003F#32, 0x00000016#32)
  | .dsrav .. => (0xFC00003F#32, 0x00000017#32)
  | .dsll32 .. => (0xFC00003F#32, 0x0000003C#32)
  | .dsrl32 .. => (0xFC00003F#32, 0x0000003E#32)
  | .dsra32 .. => (0xFC00003F#32, 0x0000003F#32)
  | .slt .. => (0xFC00003F#32, 0x0000002A#32)
  | .sltu .. => (0xFC00003F#32, 0x0000002B#32)
  | .slti .. => (0xFC000000#32, 0x28000000#32)
  | .sltiu .. => (0xFC000000#32, 0x2C000000#32)
  | .and .. => (0xFC00003F#32, 0x00000024#32)
  | .or .. => (0xFC00003F#32, 0x00000025#32)
  | .xor .. => (0xFC00003F#32, 0x00000026#32)
  | .nor .. => (0xFC00003F#32, 0x00000027#32)
  | .andi .. => (0xFC000000#32, 0x30000000#32)
  | .ori .. => (0xFC000000#32, 0x34000000#32)
  | .xori .. => (0xFC000000#32, 0x38000000#32)
  | .lui .. => (0xFC000000#32, 0x3C000000#32)
  | .mfhi .. => (0xFC00003F#32, 0x00000010#32)
  | .mthi .. => (0xFC00003F#32, 0x00000011#32)
  | .mflo .. => (0xFC00003F#32, 0x00000012#32)
  | .mtlo .. => (0xFC00003F#32, 0x00000013#32)
  | .mfc0 .. => (0xFFE00000#32, 0x40000000#32)
  | .mtc0 .. => (0xFFE00000#32, 0x40800000#32)
  | .dmfc0 .. => (0xFFE00000#32, 0x40200000#32)
  | .dmtc0 .. => (0xFFE00000#32, 0x40A00000#32)
  | .mfc1 .. => (0xFFE00000#32, 0x44000000#32)
  | .mtc1 .. => (0xFFE00000#32, 0x44800000#32)
  | .dmfc1 .. => (0xFFE00000#32, 0x44200000#32)
  | .dmtc1 .. => (0xFFE00000#32, 0x44A00000#32)
  | .cfc1 .. => (0xFFE00000#32, 0x44400000#32)
  | .ctc1 .. => (0xFFE00000#32, 0x44C00000#32)
  | .beq .. => (0xFC000000#32, 0x10000000#32)
  | .bne .. => (0xFC000000#32, 0x14000000#32)
  | .blez .. => (0xFC000000#32, 0x18000000#32)
  | .bgtz .. => (0xFC000000#32, 0x1C000000#32)
  | .bltz .. => (0xFC1F0000#32, 0x04000000#32)
  | .bgez .. => (0xFC1F0000#32, 0x04010000#32)
  | .bltzal .. => (0xFC1F0000#32, 0x04100000#32)
  | .bgezal .. => (0xFC1F0000#32, 0x04110000#32)
  | .beql .. => (0xFC000000#32, 0x50000000#32)
  | .bnel .. => (0xFC000000#32, 0x54000000#32)
  | .blezl .. => (0xFC000000#32, 0x58000000#32)
  | .bgtzl .. => (0xFC000000#32, 0x5C000000#32)
  | .bltzl .. => (0xFC1F0000#32, 0x04020000#32)
  | .bgezl .. => (0xFC1F0000#32, 0x04030000#32)
  | .bltzall .. => (0xFC1F0000#32, 0x04120000#32)
  | .bgezall .. => (0xFC1F0000#32, 0x04130000#32)
  | .bc1f .. => (0xFFFF0000#32, 0x45000000#32)
  | .bc1t .. => (0xFFFF0000#32, 0x45010000#32)
  | .bc1fl .. => (0xFFFF0000#32, 0x45020000#32)
  | .bc1tl .. => (0xFFFF0000#32, 0x45030000#32)
  | .j .. => (0xFC000000#32, 0x08000000#32)
  | .jal .. => (0xFC000000#32, 0x0C000000#32)
  | .jr .. => (0xFC00003F#32, 0x00000008#32)
  | .jalr .. => (0xFC00003F#32, 0x00000009#32)
  | .lb .. => (0xFC000000#32, 0x80000000#32)
  | .lbu .. => (0xFC000000#32, 0x90000000#32)
  | .lh .. => (0xFC000000#32, 0x84000000#32)
  | .lhu .. => (0xFC000000#32, 0x94000000#32)
  | .lw .. => (0xFC000000#32, 0x8C000000#32)
  | .lwu .. => (0xFC000000#32, 0x9C000000#32)
  | .ld .. => (0xFC000000#32, 0xDC000000#32)
  | .lwl .. => (0xFC000000#32, 0x88000000#32)
  | .lwr .. => (0xFC000000#32, 0x98000000#32)
  | .ldl .. => (0xFC000000#32, 0x68000000#32)
  | .ldr .. => (0xFC000000#32, 0x6C000000#32)
  | .sb .. => (0xFC000000#32, 0xA0000000#32)
  | .sh .. => (0xFC000000#32, 0xA4000000#32)
  | .sw .. => (0xFC000000#32, 0xAC000000#32)
  | .sd .. => (0xFC000000#32, 0xFC000000#32)
  | .swl .. => (0xFC000000#32, 0xA8000000#32)
  | .swr .. => (0xFC000000#32, 0xB8000000#32)
  | .sdl .. => (0xFC000000#32, 0xB0000000#32)
  | .sdr .. => (0xFC000000#32, 0xB4000000#32)
  | .ll .. => (0xFC000000#32, 0xC0000000#32)
  | .lld .. => (0xFC000000#32, 0xD0000000#32)
  | .sc .. => (0xFC000000#32, 0xE0000000#32)
  | .scd .. => (0xFC000000#32, 0xF0000000#32)
  | .lwc1 .. => (0xFC000000#32, 0xC4000000#32)
  | .ldc1 .. => (0xFC000000#32, 0xD4000000#32)
  | .swc1 .. => (0xFC000000#32, 0xE4000000#32)
  | .sdc1 .. => (0xFC000000#32, 0xF4000000#32)
  | .addS .. => (0xFFE0003F#32, 0x46000000#32)
  | .addD .. => (0xFFE0003F#32, 0x46200000#32)
  | .subS .. => (0xFFE0003F#32, 0x46000001#32)
  | .subD .. => (0xFFE0003F#32, 0x46200001#32)
  | .mulS .. => (0xFFE0003F#32, 0x46000002#32)
  | .mulD .. => (0xFFE0003F#32, 0x46200002#32)
  | .divS .. => (0xFFE0003F#32, 0x46000003#32)
  | .divD .. => (0xFFE0003F#32, 0x46200003#32)
  | .sqrtS .. => (0xFFE0003F#32, 0x46000004#32)
  | .sqrtD .. => (0xFFE0003F#32, 0x46200004#32)
  | .absS .. => (0xFFE0003F#32, 0x46000005#32)
  | .absD .. => (0xFFE0003F#32, 0x46200005#32)
  | .movS .. => (0xFFE0003F#32, 0x46000006#32)
  | .movD .. => (0xFFE0003F#32, 0x46200006#32)
  | .negS .. => (0xFFE0003F#32, 0x46000007#32)
  | .negD .. => (0xFFE0003F#32, 0x46200007#32)
  | .roundLS .. => (0xFFE0003F#32, 0x46000008#32)
  | .roundLD .. => (0xFFE0003F#32, 0x46200008#32)
  | .truncLS .. => (0xFFE0003F#32, 0x46000009#32)
  | .truncLD .. => (0xFFE0003F#32, 0x46200009#32)
  | .ceilLS .. => (0xFFE0003F#32, 0x4600000A#32)
  | .ceilLD .. => (0xFFE0003F#32, 0x4620000A#32)
  | .floorLS .. => (0xFFE0003F#32, 0x4600000B#32)
  | .floorLD .. => (0xFFE0003F#32, 0x4620000B#32)
  | .roundWS .. => (0xFFE0003F#32, 0x4600000C#32)
  | .roundWD .. => (0xFFE0003F#32, 0x4620000C#32)
  | .truncWS .. => (0xFFE0003F#32, 0x4600000D#32)
  | .truncWD .. => (0xFFE0003F#32, 0x4620000D#32)
  | .ceilWS .. => (0xFFE0003F#32, 0x4600000E#32)
  | .ceilWD .. => (0xFFE0003F#32, 0x4620000E#32)
  | .floorWS .. => (0xFFE0003F#32, 0x4600000F#32)
  | .floorWD .. => (0xFFE0003F#32, 0x4620000F#32)
  | .cvtSD .. => (0xFFE0003F#32, 0x46200020#32)
  | .cvtSW .. => (0xFFE0003F#32, 0x46800020#32)
  | .cvtSL .. => (0xFFE0003F#32, 0x46A00020#32)
  | .cvtDS .. => (0xFFE0003F#32, 0x46000021#32)
  | .cvtDW .. => (0xFFE0003F#32, 0x46800021#32)
  | .cvtDL .. => (0xFFE0003F#32, 0x46A00021#32)
  | .cvtWS .. => (0xFFE0003F#32, 0x46000024#32)
  | .cvtWD .. => (0xFFE0003F#32, 0x46200024#32)
  | .cvtLS .. => (0xFFE0003F#32, 0x46000025#32)
  | .cvtLD .. => (0xFFE0003F#32, 0x46200025#32)
  | .cFS .. => (0xFFE0003F#32, 0x46000030#32)
  | .cFD .. => (0xFFE0003F#32, 0x46200030#32)
  | .cUnS .. => (0xFFE0003F#32, 0x46000031#32)
  | .cUnD .. => (0xFFE0003F#32, 0x46200031#32)
  | .cEqS .. => (0xFFE0003F#32, 0x46000032#32)
  | .cEqD .. => (0xFFE0003F#32, 0x46200032#32)
  | .cUeqS .. => (0xFFE0003F#32, 0x46000033#32)
  | .cUeqD .. => (0xFFE0003F#32, 0x46200033#32)
  | .cOltS .. => (0xFFE0003F#32, 0x46000034#32)
  | .cOltD .. => (0xFFE0003F#32, 0x46200034#32)
  | .cUltS .. => (0xFFE0003F#32, 0x46000035#32)
  | .cUltD .. => (0xFFE0003F#32, 0x46200035#32)
  | .cOleS .. => (0xFFE0003F#32, 0x46000036#32)
  | .cOleD .. => (0xFFE0003F#32, 0x46200036#32)
  | .cUleS .. => (0xFFE0003F#32, 0x46000037#32)
  | .cUleD .. => (0xFFE0003F#32, 0x46200037#32)
  | .cSfS .. => (0xFFE0003F#32, 0x46000038#32)
  | .cSfD .. => (0xFFE0003F#32, 0x46200038#32)
  | .cNgleS .. => (0xFFE0003F#32, 0x46000039#32)
  | .cNgleD .. => (0xFFE0003F#32, 0x46200039#32)
  | .cSeqS .. => (0xFFE0003F#32, 0x4600003A#32)
  | .cSeqD .. => (0xFFE0003F#32, 0x4620003A#32)
  | .cNglS .. => (0xFFE0003F#32, 0x4600003B#32)
  | .cNglD .. => (0xFFE0003F#32, 0x4620003B#32)
  | .cLtS .. => (0xFFE0003F#32, 0x4600003C#32)
  | .cLtD .. => (0xFFE0003F#32, 0x4620003C#32)
  | .cNgeS .. => (0xFFE0003F#32, 0x4600003D#32)
  | .cNgeD .. => (0xFFE0003F#32, 0x4620003D#32)
  | .cLeS .. => (0xFFE0003F#32, 0x4600003E#32)
  | .cLeD .. => (0xFFE0003F#32, 0x4620003E#32)
  | .cNgtS .. => (0xFFE0003F#32, 0x4600003F#32)
  | .cNgtD .. => (0xFFE0003F#32, 0x4620003F#32)
  | .eret => (0xFE00003F#32, 0x42000018#32)
  | .syscall .. => (0xFC00003F#32, 0x0000000C#32)
  | .brk .. => (0xFC00003F#32, 0x0000000D#32)
  | .sync => (0xFC00003F#32, 0x0000000F#32)
  | .cache .. => (0xFC000000#32, 0xBC000000#32)
  | .tlbr => (0xFE00003F#32, 0x42000001#32)
  | .tlbwi => (0xFE00003F#32, 0x42000002#32)
  | .tlbwr => (0xFE00003F#32, 0x42000006#32)
  | .tlbp => (0xFE00003F#32, 0x42000008#32)
  | .tge .. => (0xFC00003F#32, 0x00000030#32)
  | .tgeu .. => (0xFC00003F#32, 0x00000031#32)
  | .tlt .. => (0xFC00003F#32, 0x00000032#32)
  | .tltu .. => (0xFC00003F#32, 0x00000033#32)
  | .teq .. => (0xFC00003F#32, 0x00000034#32)
  | .tne .. => (0xFC00003F#32, 0x00000036#32)
  | .tgei .. => (0xFC1F0000#32, 0x04080000#32)
  | .tgeiu .. => (0xFC1F0000#32, 0x04090000#32)
  | .tlti .. => (0xFC1F0000#32, 0x040A0000#32)
  | .tltiu .. => (0xFC1F0000#32, 0x040B0000#32)
  | .teqi .. => (0xFC1F0000#32, 0x040C0000#32)
  | .tnei .. => (0xFC1F0000#32, 0x040E0000#32)

/-- The instructions flagged `reserved32` (R136). -/
def Instr.reserved32 (i : Instr) : Bool :=
  match i with
  | .dadd .. | .daddu .. | .dsub .. | .dsubu .. | .daddi .. | .daddiu .. | .ddiv .. | .ddivu .. | .dmult ..
  | .dmultu .. | .dsll .. | .dsrl .. | .dsra .. | .dsllv .. | .dsrlv .. | .dsrav .. | .dsll32 .. | .dsrl32 ..
  | .dsra32 .. | .dmfc0 .. | .dmtc0 .. | .dmfc1 .. | .dmtc1 .. | .lwu .. | .ld .. | .ldl .. | .ldr ..
  | .sd .. | .sdl .. | .sdr .. | .lld .. | .scd .. => true
  | .add .. | .addu .. | .sub .. | .subu .. | .addi .. | .addiu .. | .div .. | .divu .. | .mult ..
  | .multu .. | .sll .. | .srl .. | .sra .. | .sllv .. | .srlv .. | .srav .. | .slt .. | .sltu .. | .slti ..
  | .sltiu .. | .and .. | .or .. | .xor .. | .nor .. | .andi .. | .ori .. | .xori .. | .lui .. | .mfhi ..
  | .mthi .. | .mflo .. | .mtlo .. | .mfc0 .. | .mtc0 .. | .mfc1 .. | .mtc1 .. | .cfc1 .. | .ctc1 ..
  | .beq .. | .bne .. | .blez .. | .bgtz .. | .bltz .. | .bgez .. | .bltzal .. | .bgezal .. | .beql ..
  | .bnel .. | .blezl .. | .bgtzl .. | .bltzl .. | .bgezl .. | .bltzall .. | .bgezall .. | .bc1f ..
  | .bc1t .. | .bc1fl .. | .bc1tl .. | .j .. | .jal .. | .jr .. | .jalr .. | .lb .. | .lbu .. | .lh ..
  | .lhu .. | .lw .. | .lwl .. | .lwr .. | .sb .. | .sh .. | .sw .. | .swl .. | .swr .. | .ll .. | .sc ..
  | .lwc1 .. | .ldc1 .. | .swc1 .. | .sdc1 .. | .addS .. | .addD .. | .subS .. | .subD .. | .mulS ..
  | .mulD .. | .divS .. | .divD .. | .sqrtS .. | .sqrtD .. | .absS .. | .absD .. | .movS .. | .movD ..
  | .negS .. | .negD .. | .roundLS .. | .roundLD .. | .truncLS .. | .truncLD .. | .ceilLS .. | .ceilLD ..
  | .floorLS .. | .floorLD .. | .roundWS .. | .roundWD .. | .truncWS .. | .truncWD .. | .ceilWS ..
  | .ceilWD .. | .floorWS .. | .floorWD .. | .cvtSD .. | .cvtSW .. | .cvtSL .. | .cvtDS .. | .cvtDW ..
  | .cvtDL .. | .cvtWS .. | .cvtWD .. | .cvtLS .. | .cvtLD .. | .cFS .. | .cFD .. | .cUnS .. | .cUnD ..
  | .cEqS .. | .cEqD .. | .cUeqS .. | .cUeqD .. | .cOltS .. | .cOltD .. | .cUltS .. | .cUltD .. | .cOleS ..
  | .cOleD .. | .cUleS .. | .cUleD .. | .cSfS .. | .cSfD .. | .cNgleS .. | .cNgleD .. | .cSeqS .. | .cSeqD ..
  | .cNglS .. | .cNglD .. | .cLtS .. | .cLtD .. | .cNgeS .. | .cNgeD .. | .cLeS .. | .cLeD .. | .cNgtS ..
  | .cNgtD .. | .eret | .syscall .. | .brk .. | .sync | .cache .. | .tlbr | .tlbwi | .tlbwr | .tlbp | .tge ..
  | .tgeu .. | .tlt .. | .tltu .. | .teq .. | .tne .. | .tgei .. | .tgeiu .. | .tlti .. | .tltiu ..
  | .teqi .. | .tnei .. => false

/-- The instructions of coprocessor 0: those of `op` = 16, and CACHE (R166). -/
def Instr.usesCop0 (i : Instr) : Bool :=
  match i with
  | .mfc0 .. | .mtc0 .. | .dmfc0 .. | .dmtc0 .. | .eret | .cache .. | .tlbr | .tlbwi | .tlbwr | .tlbp => true
  | .add .. | .addu .. | .sub .. | .subu .. | .addi .. | .addiu .. | .dadd .. | .daddu .. | .dsub ..
  | .dsubu .. | .daddi .. | .daddiu .. | .div .. | .divu .. | .ddiv .. | .ddivu .. | .mult .. | .multu ..
  | .dmult .. | .dmultu .. | .sll .. | .srl .. | .sra .. | .sllv .. | .srlv .. | .srav .. | .dsll ..
  | .dsrl .. | .dsra .. | .dsllv .. | .dsrlv .. | .dsrav .. | .dsll32 .. | .dsrl32 .. | .dsra32 .. | .slt ..
  | .sltu .. | .slti .. | .sltiu .. | .and .. | .or .. | .xor .. | .nor .. | .andi .. | .ori .. | .xori ..
  | .lui .. | .mfhi .. | .mthi .. | .mflo .. | .mtlo .. | .mfc1 .. | .mtc1 .. | .dmfc1 .. | .dmtc1 ..
  | .cfc1 .. | .ctc1 .. | .beq .. | .bne .. | .blez .. | .bgtz .. | .bltz .. | .bgez .. | .bltzal ..
  | .bgezal .. | .beql .. | .bnel .. | .blezl .. | .bgtzl .. | .bltzl .. | .bgezl .. | .bltzall ..
  | .bgezall .. | .bc1f .. | .bc1t .. | .bc1fl .. | .bc1tl .. | .j .. | .jal .. | .jr .. | .jalr .. | .lb ..
  | .lbu .. | .lh .. | .lhu .. | .lw .. | .lwu .. | .ld .. | .lwl .. | .lwr .. | .ldl .. | .ldr .. | .sb ..
  | .sh .. | .sw .. | .sd .. | .swl .. | .swr .. | .sdl .. | .sdr .. | .ll .. | .lld .. | .sc .. | .scd ..
  | .lwc1 .. | .ldc1 .. | .swc1 .. | .sdc1 .. | .addS .. | .addD .. | .subS .. | .subD .. | .mulS ..
  | .mulD .. | .divS .. | .divD .. | .sqrtS .. | .sqrtD .. | .absS .. | .absD .. | .movS .. | .movD ..
  | .negS .. | .negD .. | .roundLS .. | .roundLD .. | .truncLS .. | .truncLD .. | .ceilLS .. | .ceilLD ..
  | .floorLS .. | .floorLD .. | .roundWS .. | .roundWD .. | .truncWS .. | .truncWD .. | .ceilWS ..
  | .ceilWD .. | .floorWS .. | .floorWD .. | .cvtSD .. | .cvtSW .. | .cvtSL .. | .cvtDS .. | .cvtDW ..
  | .cvtDL .. | .cvtWS .. | .cvtWD .. | .cvtLS .. | .cvtLD .. | .cFS .. | .cFD .. | .cUnS .. | .cUnD ..
  | .cEqS .. | .cEqD .. | .cUeqS .. | .cUeqD .. | .cOltS .. | .cOltD .. | .cUltS .. | .cUltD .. | .cOleS ..
  | .cOleD .. | .cUleS .. | .cUleD .. | .cSfS .. | .cSfD .. | .cNgleS .. | .cNgleD .. | .cSeqS .. | .cSeqD ..
  | .cNglS .. | .cNglD .. | .cLtS .. | .cLtD .. | .cNgeS .. | .cNgeD .. | .cLeS .. | .cLeD .. | .cNgtS ..
  | .cNgtD .. | .syscall .. | .brk .. | .sync | .tge .. | .tgeu .. | .tlt .. | .tltu .. | .teq .. | .tne ..
  | .tgei .. | .tgeiu .. | .tlti .. | .tltiu .. | .teqi .. | .tnei .. => false

/-- The instructions of coprocessor 1: those of `op` = 17, and its four loads and stores (R166). -/
def Instr.usesCop1 (i : Instr) : Bool :=
  match i with
  | .mfc1 .. | .mtc1 .. | .dmfc1 .. | .dmtc1 .. | .cfc1 .. | .ctc1 .. | .bc1f .. | .bc1t .. | .bc1fl ..
  | .bc1tl .. | .lwc1 .. | .ldc1 .. | .swc1 .. | .sdc1 .. | .addS .. | .addD .. | .subS .. | .subD ..
  | .mulS .. | .mulD .. | .divS .. | .divD .. | .sqrtS .. | .sqrtD .. | .absS .. | .absD .. | .movS ..
  | .movD .. | .negS .. | .negD .. | .roundLS .. | .roundLD .. | .truncLS .. | .truncLD .. | .ceilLS ..
  | .ceilLD .. | .floorLS .. | .floorLD .. | .roundWS .. | .roundWD .. | .truncWS .. | .truncWD ..
  | .ceilWS .. | .ceilWD .. | .floorWS .. | .floorWD .. | .cvtSD .. | .cvtSW .. | .cvtSL .. | .cvtDS ..
  | .cvtDW .. | .cvtDL .. | .cvtWS .. | .cvtWD .. | .cvtLS .. | .cvtLD .. | .cFS .. | .cFD .. | .cUnS ..
  | .cUnD .. | .cEqS .. | .cEqD .. | .cUeqS .. | .cUeqD .. | .cOltS .. | .cOltD .. | .cUltS .. | .cUltD ..
  | .cOleS .. | .cOleD .. | .cUleS .. | .cUleD .. | .cSfS .. | .cSfD .. | .cNgleS .. | .cNgleD .. | .cSeqS ..
  | .cSeqD .. | .cNglS .. | .cNglD .. | .cLtS .. | .cLtD .. | .cNgeS .. | .cNgeD .. | .cLeS .. | .cLeD ..
  | .cNgtS .. | .cNgtD .. => true
  | .add .. | .addu .. | .sub .. | .subu .. | .addi .. | .addiu .. | .dadd .. | .daddu .. | .dsub ..
  | .dsubu .. | .daddi .. | .daddiu .. | .div .. | .divu .. | .ddiv .. | .ddivu .. | .mult .. | .multu ..
  | .dmult .. | .dmultu .. | .sll .. | .srl .. | .sra .. | .sllv .. | .srlv .. | .srav .. | .dsll ..
  | .dsrl .. | .dsra .. | .dsllv .. | .dsrlv .. | .dsrav .. | .dsll32 .. | .dsrl32 .. | .dsra32 .. | .slt ..
  | .sltu .. | .slti .. | .sltiu .. | .and .. | .or .. | .xor .. | .nor .. | .andi .. | .ori .. | .xori ..
  | .lui .. | .mfhi .. | .mthi .. | .mflo .. | .mtlo .. | .mfc0 .. | .mtc0 .. | .dmfc0 .. | .dmtc0 ..
  | .beq .. | .bne .. | .blez .. | .bgtz .. | .bltz .. | .bgez .. | .bltzal .. | .bgezal .. | .beql ..
  | .bnel .. | .blezl .. | .bgtzl .. | .bltzl .. | .bgezl .. | .bltzall .. | .bgezall .. | .j .. | .jal ..
  | .jr .. | .jalr .. | .lb .. | .lbu .. | .lh .. | .lhu .. | .lw .. | .lwu .. | .ld .. | .lwl .. | .lwr ..
  | .ldl .. | .ldr .. | .sb .. | .sh .. | .sw .. | .sd .. | .swl .. | .swr .. | .sdl .. | .sdr .. | .ll ..
  | .lld .. | .sc .. | .scd .. | .eret | .syscall .. | .brk .. | .sync | .cache .. | .tlbr | .tlbwi | .tlbwr
  | .tlbp | .tge .. | .tgeu .. | .tlt .. | .tltu .. | .teq .. | .tne .. | .tgei .. | .tgeiu .. | .tlti ..
  | .tltiu .. | .teqi .. | .tnei .. => false

/-- The control transfers: branches, jumps and ERET (R172). -/
def Instr.isTransfer (i : Instr) : Bool :=
  match i with
  | .beq .. | .bne .. | .blez .. | .bgtz .. | .bltz .. | .bgez .. | .bltzal .. | .bgezal .. | .beql ..
  | .bnel .. | .blezl .. | .bgtzl .. | .bltzl .. | .bgezl .. | .bltzall .. | .bgezall .. | .bc1f ..
  | .bc1t .. | .bc1fl .. | .bc1tl .. | .j .. | .jal .. | .jr .. | .jalr .. | .eret => true
  | .add .. | .addu .. | .sub .. | .subu .. | .addi .. | .addiu .. | .dadd .. | .daddu .. | .dsub ..
  | .dsubu .. | .daddi .. | .daddiu .. | .div .. | .divu .. | .ddiv .. | .ddivu .. | .mult .. | .multu ..
  | .dmult .. | .dmultu .. | .sll .. | .srl .. | .sra .. | .sllv .. | .srlv .. | .srav .. | .dsll ..
  | .dsrl .. | .dsra .. | .dsllv .. | .dsrlv .. | .dsrav .. | .dsll32 .. | .dsrl32 .. | .dsra32 .. | .slt ..
  | .sltu .. | .slti .. | .sltiu .. | .and .. | .or .. | .xor .. | .nor .. | .andi .. | .ori .. | .xori ..
  | .lui .. | .mfhi .. | .mthi .. | .mflo .. | .mtlo .. | .mfc0 .. | .mtc0 .. | .dmfc0 .. | .dmtc0 ..
  | .mfc1 .. | .mtc1 .. | .dmfc1 .. | .dmtc1 .. | .cfc1 .. | .ctc1 .. | .lb .. | .lbu .. | .lh .. | .lhu ..
  | .lw .. | .lwu .. | .ld .. | .lwl .. | .lwr .. | .ldl .. | .ldr .. | .sb .. | .sh .. | .sw .. | .sd ..
  | .swl .. | .swr .. | .sdl .. | .sdr .. | .ll .. | .lld .. | .sc .. | .scd .. | .lwc1 .. | .ldc1 ..
  | .swc1 .. | .sdc1 .. | .addS .. | .addD .. | .subS .. | .subD .. | .mulS .. | .mulD .. | .divS ..
  | .divD .. | .sqrtS .. | .sqrtD .. | .absS .. | .absD .. | .movS .. | .movD .. | .negS .. | .negD ..
  | .roundLS .. | .roundLD .. | .truncLS .. | .truncLD .. | .ceilLS .. | .ceilLD .. | .floorLS ..
  | .floorLD .. | .roundWS .. | .roundWD .. | .truncWS .. | .truncWD .. | .ceilWS .. | .ceilWD ..
  | .floorWS .. | .floorWD .. | .cvtSD .. | .cvtSW .. | .cvtSL .. | .cvtDS .. | .cvtDW .. | .cvtDL ..
  | .cvtWS .. | .cvtWD .. | .cvtLS .. | .cvtLD .. | .cFS .. | .cFD .. | .cUnS .. | .cUnD .. | .cEqS ..
  | .cEqD .. | .cUeqS .. | .cUeqD .. | .cOltS .. | .cOltD .. | .cUltS .. | .cUltD .. | .cOleS .. | .cOleD ..
  | .cUleS .. | .cUleD .. | .cSfS .. | .cSfD .. | .cNgleS .. | .cNgleD .. | .cSeqS .. | .cSeqD .. | .cNglS ..
  | .cNglD .. | .cLtS .. | .cLtD .. | .cNgeS .. | .cNgeD .. | .cLeS .. | .cLeD .. | .cNgtS .. | .cNgtD ..
  | .syscall .. | .brk .. | .sync | .cache .. | .tlbr | .tlbwi | .tlbwr | .tlbp | .tge .. | .tgeu ..
  | .tlt .. | .tltu .. | .teq .. | .tne .. | .tgei .. | .tgeiu .. | .tlti .. | .tltiu .. | .teqi ..
  | .tnei .. => false

end Sys2Proof
end

