-- ==== Sys2Proof/Config.lean ====
section
/-! DEFINITION. The implementation parameters of the block (R6) as plain data, and its free values. A parameter the
spec leaves open, or gives two admissible values, is a field of `Config` (which `State` carries unchanged, so that a
statement about every state is a statement for every admissible value) with the spec's default in
`Config.default`; a value the spec leaves free at each use is an opaque constant of this file. -/

namespace Sys2Proof

/-- `BRANCH_BASE_ADJ` (R300, D7): the branch's own address, or the address of its delay slot. -/
inductive BranchBase where
  | ownAddress
  | delaySlot
deriving DecidableEq, Repr

/-- `VSHIFT32_AMOUNT_BITS` (R257, D8). -/
inductive VShift32Bits where
  | six
  | five
deriving DecidableEq, Repr

/-- `SLT_IMM_EXT` (R247, R248, D9). -/
inductive SltImmExt where
  | sign
  | zero
deriving DecidableEq, Repr

/-- `MisalignedPolicy` (R97, D5): trap, or perform the access at the address as it stands. -/
inductive MisalignedPolicy where
  | trap
  | perform
deriving DecidableEq, Repr

/-- `Translate` (R82, D3): the identity, or `TranslateKseg`. -/
inductive TranslateKind where
  | identity
  | kseg
deriving DecidableEq, Repr

/-- The two refill exceptions, `TlbRefill` and `XTlbRefill` (R480). -/
inductive RefillKind where
  | tlb
  | xtlb
deriving DecidableEq, Repr

/-- What a `TlbStub` answers for a range of addresses: router addresses from `frame` on, or a refill. -/
inductive StubAnswer where
  | mapped (frame : Word)
  | refill (kind : RefillKind)
deriving DecidableEq, Repr

/-- One range of a `TlbStub`: the addresses `base … base + length - 1`. -/
structure StubRange where
  base : Nat
  length : Nat
  answer : StubAnswer
deriving DecidableEq, Repr

/-- A `TlbStub` (R6, R82, R484): the stand-in for the TLB outside the block. The first range that contains an address
answers for it, the refill `miss` where none does. The spec gives the stub no more than its place: that it is a fixed
table, the same for a load and a store, is the model's. (DESIGN CHOICE, assumption 31.) -/
structure TlbStub where
  ranges : List StubRange
  miss : RefillKind
deriving DecidableEq, Repr

/-- A Block Device (R85 to R87), each with its `Size` in bytes. `store` is the first cell of memory that holds the
device's bytes: the byte at device offset `o` is the cell `store + o`. -/
inductive Device where
  /-- RAM with `capacity` bytes behind a window that is longer (R87). -/
  | ram (store capacity : Nat)
  /-- Boot or control memory, and other RAM-like storage: returns the bytes last written (R85). -/
  | storage (store size : Nat)
  /-- A ROM: returns fixed bytes (R85). -/
  | rom (store size : Nat)
  /-- A peripheral register block: an opaque agent (R86). -/
  | peripheral (size : Nat)
  /-- A placeholder: device-defined bytes, ignores writes (R85). -/
  | placeholder (size : Nat)
deriving DecidableEq, Repr

/-- `Size` of R85: the capacity of a device in bytes. -/
def Device.size (d : Device) : Nat :=
  match d with
  | .ram _ capacity => capacity
  | .storage _ size => size
  | .rom _ size => size
  | .peripheral size => size
  | .placeholder size => size

/-- One (window, device) pair of `AddressMap` (R83): the addresses `base … base + length - 1`. -/
structure Window where
  base : Nat
  length : Nat
  device : Device
deriving DecidableEq, Repr

/-- `Numerics.isSignaling` (R393): which value of the most significant fraction bit marks a signaling NaN. -/
inductive NanConvention where
  | msbSetSignals
  | msbClearSignals
deriving DecidableEq, Repr

/-- `Numerics`: when tininess is detected (R393, OPEN there). -/
inductive Tininess where
  | afterRounding
  | beforeRounding
deriving DecidableEq, Repr

/-- `Numerics.denormal` (R393): IEEE gradual underflow, or the unimplemented-operation condition. -/
inductive DenormalMode where
  | gradual
  | unimplemented
deriving DecidableEq, Repr

/-- `Numerics.absNegOnNaN` (R393, U8): a sign-bit operation with no exception, or Invalid with the default NaN. -/
inductive AbsNegOnNaN where
  | signBit
  | invalid
deriving DecidableEq, Repr

/-- The configuration record `Numerics` of R393 (D32). -/
structure Numerics where
  nan : NanConvention
  tininess : Tininess
  denormal : DenormalMode
  defaultNaN32 : Word
  defaultNaN64 : Dword
  intOverflow32 : Word
  intOverflow64 : Dword
  absNegOnNaN : AbsNegOnNaN
  compareSNaNSignals : Bool
deriving DecidableEq, Repr

/-- The launch parameters of R6 that are fixed for a run. -/
structure Config where
  branchBase : BranchBase
  vshift32 : VShift32Bits
  sltImm : SltImmExt
  misaligned : MisalignedPolicy
  translate : TranslateKind
  /-- `TlbStub` (R6, R82, R484); none in the default configuration. -/
  tlbStub : Option TlbStub
  directVector : Bool
  /-- `FCR0_VALUE` (R34): implementation and revision, the only bits of FCR0 that are not zero. -/
  fcr0 : Half
  /-- `PRID_VALUE` (R61): implementation and revision, the only bits of PRId that are not zero. -/
  prid : Half
  /-- `CONFIG_VALUE` (R62): the fields EC, EP, CU and K0 of Config after reset; its other bits are fixed. -/
  configValue : Word
  numerics : Numerics
deriving DecidableEq, Repr

/-- The fields of R393 at the value the spec gives each as its default, or as the MIPS III one where it leaves it
open. (DESIGN CHOICE, assumption 5; unsafe for a claim that uses one of the open values.) -/
def Numerics.default : Numerics where
  nan := .msbSetSignals
  tininess := .afterRounding
  denormal := .gradual
  defaultNaN32 := 0x7FBFFFFF#32
  defaultNaN64 := 0x7FF7FFFFFFFFFFFF#64
  intOverflow32 := 0x7FFFFFFF#32
  intOverflow64 := 0x7FFFFFFFFFFFFFFF#64
  absNegOnNaN := .invalid
  compareSNaNSignals := false

/-- The defaults of R6. (The identification values are DESIGN CHOICE, assumption 4.) -/
def Config.default : Config where
  branchBase := .ownAddress
  vshift32 := .six
  sltImm := .sign
  misaligned := .trap
  translate := .identity
  tlbStub := none
  directVector := false
  fcr0 := 0x0A00#16
  prid := 0x0B22#16
  configValue := 0x7006E463#32
  numerics := Numerics.default

/-- The bits of Config that are fixed (R62): bit 31, bits 23:16, BE at 1, bits 14:4. -/
def configFixedMask : Word := 0x80FFFFF0#32

/-- What the fixed bits of Config read as (R62). -/
def configFixed : Word := 0x0006E460#32

/-- What Config holds after reset (R62, R74). -/
def Config.configRegister (c : Config) : Word := (c.configValue &&& ~~~configFixedMask) ||| configFixed

/-- A value the spec leaves open at the `n`-th use: a read of Random or of a register number that names no register
(U14, U15, U17), the bytes a peripheral or a placeholder returns (U1, R86), a propagated NaN (R393). -/
opaque Config.freeValue : Nat → Dword

/-- `RamOpenBus` (R87, D26): what a read returns at a RAM offset at or beyond the capacity, by offset alone. -/
opaque Config.ramOpenBus : Nat → Byte

/-- The windows of the physical map that R103 names, at the addresses and sizes of the instance under D4. -/
def physicalWindows : List Window :=
  [ ⟨0x00000000, 0x03F00000, .ram 0x00000000 0x00400000⟩,
    ⟨0x03F00000, 0x00100000, .peripheral 0x00100000⟩,
    ⟨0x04000000, 0x00001000, .storage 0x04000000 0x00001000⟩,
    ⟨0x04001000, 0x00001000, .storage 0x04001000 0x00001000⟩,
    ⟨0x04040000, 0x000C0000, .peripheral 0x000C0000⟩,
    ⟨0x04100000, 0x00100000, .peripheral 0x00100000⟩,
    ⟨0x04200000, 0x00100000, .peripheral 0x00100000⟩,
    ⟨0x04300000, 0x00100000, .peripheral 0x00100000⟩,
    ⟨0x04400000, 0x00100000, .peripheral 0x00100000⟩,
    ⟨0x04500000, 0x00100000, .peripheral 0x00100000⟩,
    ⟨0x04600000, 0x00100000, .peripheral 0x00100000⟩,
    ⟨0x04700000, 0x00100000, .peripheral 0x00100000⟩,
    ⟨0x04800000, 0x00100000, .peripheral 0x00100000⟩,
    ⟨0x05000000, 0x01000000, .placeholder 0x01000000⟩,
    ⟨0x06000000, 0x02000000, .placeholder 0x02000000⟩,
    ⟨0x08000000, 0x08000000, .storage 0x08000000 0x08000000⟩,
    ⟨0x10000000, 0x0FC00000, .rom 0x10000000 0x0FC00000⟩,
    ⟨0x1FC00000, 0x000007C0, .storage 0x1FC00000 0x000007C0⟩,
    ⟨0x1FC007C0, 0x00000040, .storage 0x1FC007C0 0x00000040⟩ ]

/-- The same devices seen `shift` addresses higher: a device may stand behind more than one window (R83). -/
def shiftedWindows (shift : Nat) (ws : List Window) : List Window :=
  ws.map fun w => { w with base := w.base + shift }

/-- The address map a run starts with: the physical windows of D4 at their own addresses and, since the default
`Translate` is the identity and executable storage must stand at the truncated vectors (R102), again at the two
unmapped kernel segments. (DESIGN CHOICE, assumption 3: R6 leaves the map open; unsafe for a claim that relies on a
particular window.) -/
def defaultMap : List Window :=
  physicalWindows ++ [⟨0x1FD00000, 0x60300000, .rom 0x1FD00000 0x60300000⟩] ++
    shiftedWindows 0x80000000 (physicalWindows ++ [⟨0x1FD00000, 0x00300000, .rom 0x1FD00000 0x60300000⟩]) ++
    shiftedWindows 0xA0000000 (physicalWindows ++ [⟨0x1FD00000, 0x00300000, .rom 0x1FD00000 0x60300000⟩])

end Sys2Proof
end

