-- ==== Sys2Proof/Machine/State.lean ====
section
/-! DEFINITION. The whole architectural state of the block as plain data (R3, R20 to R74), the reasons a Step can
stop, and the state after reset (R74, R540). -/

namespace Sys2Proof.Machine

/-- The branch unit `BU` and its snapshot: the five fields of R38. -/
structure BranchUnit where
  takeBranch : Bool
  branchDelayPending : Bool
  unconditionalJump : Bool
  targetAddress : Dword
  nullifyNext : Bool
deriving DecidableEq, Repr

/-- The Sequential state of R39 with every field clear: what reset leaves (R74) and what dispatch leaves (R507). -/
def BranchUnit.clear : BranchUnit := ⟨false, false, false, 0, false⟩

/-- The synchronous exceptions of R480 with their information (R11, R42). `tlbRefill` comes only from a `TlbStub`
(R484, R495), whose information is whether the access was a store. -/
inductive Exc where
  | addressErrorLoad (va : Dword)
  | addressErrorStore (va : Dword)
  | busErrorFetch
  | busErrorData
  | syscall
  | breakpoint
  | reservedInstruction
  | coprocessorUnusable (n : BitVec 2)
  | overflow
  | trap
  | floatingPoint
  | tlbRefill (store : Bool)
deriving DecidableEq, Repr

/-- `Pending` (R42): the events raised and not yet dispatched. `xtlbStore` is the information that comes with an
`xtlb` request: whether the access was a store (R480). -/
structure Pending where
  sync : Option Exc
  nmi : Bool
  xtlb : Bool
  xtlbStore : Bool
  tlb : Bool
  cacheErr : Bool
deriving DecidableEq, Repr

/-- The inputs the platform drives (R43). The pair `ExtIntr`, `ExtMask` has a platform-defined width, so the two
are plain numbers read as bits. No Step changes an input. -/
structure Inputs where
  extIntr : Nat
  extMask : Nat
  resetButton : Bool
  nmiReq : Bool
deriving DecidableEq, Repr

/-- The coprocessor-0 registers that hold state (R44 to R71). PRId is the parameter `cfg.prid`; CacheErr and TagHi
read zero and have no storage (R69, R70). `random` keeps the upper bound reset leaves; a read of Random is a draw
(R46). -/
structure Cop0 where
  index : Word
  random : Word
  entryLo0 : Dword
  entryLo1 : Dword
  context : Dword
  pageMask : Word
  wired : Word
  badVAddr : Dword
  count : Word
  entryHi : Dword
  compare : Word
  status : Word
  cause : Word
  epc : Dword
  config : Word
  llAddr : Word
  watchLo : Word
  watchHi : Word
  xContext : Dword
  pErr : Word
  tagLo : Word
  errorEpc : Dword
deriving DecidableEq, Repr

/-- Memory: (cell, byte) pairs, cells strictly rising, no byte equal to what an unlisted cell reads as. A cell is a
byte of a device's storage (`Device`). -/
abbrev Memory := List Host.Cell

/-- The machine (R3). `cfg` holds the launch parameters (R6) and never changes; `map` is the address map, whose
devices the host may replace (R83, R88); `draws` is the model's own counter of free values drawn. -/
structure State where
  gpr : Vector Dword 32
  hi : Dword
  lo : Dword
  pc : Dword
  fpr : Vector Dword 32
  fcr31 : Word
  llBit : Bool
  bu : BranchUnit
  snapshot : BranchUnit
  inject : Option Word
  pending : Pending
  inputs : Inputs
  cop0 : Cop0
  map : List Window
  mem : Memory
  cfg : Config
  draws : Nat
deriving DecidableEq, Repr

/-- The stops in which the spec gives the machine no next state and calls for a fault (93 section 2). -/
inductive Fault where
  /-- Raised by a Step taken, or by an instruction that needs the mode, while `Status.KSU = 11` and EXL = ERL = 0:
  `Mode` has no value there (U16, R56, R72). Safe: the machine stops where the spec gives no behaviour. -/
  | undefinedMode
  /-- Raised by a read or write of the doubleword view of an odd register while `Status.FR = 0` (U13, R32).
  Safe: the machine stops where the spec gives no behaviour. -/
  | oddDoubleRegister
deriving DecidableEq, Repr

/-- The runs the spec gives no meaning to (R13, 93 section 2). -/
inductive Refusal where
  /-- An instruction whose arm of `exec` has no meaning yet. Safe: nothing is claimed of it. -/
  | notModelled (mnemonic : String)
  /-- A branch, jump or ERET in the delay slot of a taken branch (R172, U3). Safe: the run has no meaning. -/
  | controlTransferInDelaySlot
  /-- TLBR, TLBWI, TLBWR, TLBP once the coprocessor-0 gate is passed (R173, R455 to R458). Safe. -/
  | tlbOutsideBlock
  /-- Under `TranslateKseg` with no `TlbStub` supplied, an access outside KSEG0 and KSEG1: its translation belongs to the
  TLB (R82). Safe. -/
  | translationOutsideBlock
  /-- A scalar transfer larger than `SCRATCH_CAPACITY` (R93); no instruction asks for one. Safe. -/
  | scratchCapacityExceeded
  /-- A bulk copy whose length is not a multiple of 4 (R105, U19). Raised by `bulkCopy` only. Safe. -/
  | bulkCopyLength
  /-- A bulk copy or a raw-view access that finds no device (R105, D50, U19). Raised by those only. Safe. -/
  | hostDeviceNotFound
deriving DecidableEq, Repr

/-- `ResetDraw` (R74, R542): the values Count, Compare, Cause and the undefined fields of Status hold after reset. -/
structure ResetDraw where
  count : Word
  compare : Word
  cause : Word
  status : Word
deriving DecidableEq, Repr

/-- The fields of Status that R74 fixes at a cold reset: RP (27), BEV (22), TS (21), SR (20), ERL (2), and the two
bits that read zero (23, 19). -/
def resetStatusFixed : Word := 0x08F80004#32

/-- Status after reset: ERL = BEV = 1, TS = SR = RP = 0, the other fields drawn (R74). -/
def resetStatus (d : ResetDraw) : Word := (d.status &&& ~~~resetStatusFixed) ||| 0x00400004#32

/-- The fields Cause has (R59); IP[6:5] and IP[3] are not connected and read zero. -/
def resetCauseFields : Word := 0xB000977C#32

/-- Coprocessor 0 after reset. Every register the table of R74 leaves unspecified holds zero (DESIGN CHOICE,
assumption 1; unsafe). -/
def Cop0.reset (cfg : Config) (d : ResetDraw) : Cop0 where
  index := 0
  random := 31
  entryLo0 := 0
  entryLo1 := 0
  context := 0
  pageMask := 0
  wired := 0
  badVAddr := 0
  count := d.count
  entryHi := 0
  compare := d.compare
  status := resetStatus d
  cause := d.cause &&& resetCauseFields
  epc := 0
  config := cfg.configRegister
  llAddr := 0
  watchLo := 0
  watchHi := 0
  xContext := 0
  pErr := 0
  tagLo := 0
  errorEpc := 0

/-- The state after reset under given launch parameters, address map and `ResetDraw` (R74, R540 to R542). -/
def State.resetWith (cfg : Config) (map : List Window) (d : ResetDraw) : State where
  gpr := Vector.replicate 32 0
  hi := 0
  lo := 0
  pc := 0xFFFFFFFFBFC00000#64
  fpr := Vector.replicate 32 0
  fcr31 := 0
  llBit := false
  bu := BranchUnit.clear
  snapshot := BranchUnit.clear
  inject := none
  pending := ⟨none, false, false, false, false, false⟩
  inputs := ⟨0, 0, false, false⟩
  cop0 := Cop0.reset cfg d
  map := map
  mem := []
  cfg := cfg
  draws := 0

/-- The machine right after reset: the defaults of R6, the map of assumption 3, and a draw of zeros (DESIGN CHOICE,
assumption 1; unsafe: a claim about reset is worth its general form over `State.resetWith`). -/
def State.reset : State := State.resetWith Config.default defaultMap ⟨0, 0, 0, 0⟩

end Sys2Proof.Machine
end

