-- ==== Sys2Proof/Machine/Flags.lean ====
section
/-! DEFINITION. Every flag computation: signed overflow (R203), the fields of FCR31 and the condition flag (R35, R36,
R392). There is no integer flag register. -/

namespace Sys2Proof.Machine

/-- The exact integer lies outside the range of an `n`-bit signed value (R203). -/
def signedOverflow (n : Nat) (x : Int) : Bool := decide (x < -(2 ^ (n - 1)) ∨ 2 ^ (n - 1) - 1 < x)

/-- The add overflows (R203). -/
def addOverflows {n : Nat} (a b : BitVec n) : Bool := signedOverflow n (a.toInt + b.toInt)

/-- The subtract overflows (R203). -/
def subOverflows {n : Nat} (a b : BitVec n) : Bool := signedOverflow n (a.toInt - b.toInt)

/-- A set of IEEE exceptions in the bit order of the fields of FCR31: I, U, O, Z, V from bit 0 up (R35). -/
abbrev Signals := BitVec 5

def Signals.none : Signals := 0x00#5
def Signals.inexact : Signals := 0x01#5
def Signals.underflow : Signals := 0x02#5
def Signals.overflow : Signals := 0x04#5
def Signals.divideByZero : Signals := 0x08#5
def Signals.invalid : Signals := 0x10#5

/-- The rounding mode field RM of FCR31 (R35). -/
def roundingField (f : Word) : BitVec 2 := f.extractLsb' 0 2

/-- The field Flags of FCR31 (R35). -/
def flagsField (f : Word) : Signals := f.extractLsb' 2 5

/-- The field Enable of FCR31 (R35). -/
def enableField (f : Word) : Signals := f.extractLsb' 7 5

/-- The field Cause of FCR31: E in the highest bit, then V, Z, O, U, I (R35). -/
def causeField (f : Word) : BitVec 6 := f.extractLsb' 12 6

/-- FCR31 with the six Cause bits made `c` (R392, steps 1, 2 and 4). -/
def withCause (f : Word) (c : BitVec 6) : Word := (f &&& 0xFFFC0FFF#32) ||| (c.setWidth 32 <<< 12)

/-- The Cause field that records a set of IEEE exceptions, E clear (R392 step 4). -/
def causeOfSignals (x : Signals) : BitVec 6 := x.setWidth 6

/-- The Cause field of the unimplemented operation: E alone (R392 step 2). -/
def causeUnimplemented : BitVec 6 := 0x20#6

/-- FCR31 with a set of exceptions added to the sticky flags (R392 step 6). -/
def withFlags (f : Word) (x : Signals) : Word := f ||| (x.setWidth 32 <<< 2)

/-- The condition flag `FCC`, bit 23 of FCR31 (R36). -/
def conditionFlag (f : Word) : Bool := f.getLsbD 23

/-- FCR31 with the condition flag made `b` (R36). -/
def withConditionFlag (f : Word) (b : Bool) : Word :=
  if b then f ||| 0x00800000#32 else f &&& 0xFF7FFFFF#32

/-- The bit FS of FCR31 (R35). -/
def flushField (f : Word) : Bool := f.getLsbD 24

end Sys2Proof.Machine
end

