-- ==== Sys2Proof/Machine/Memory.lean ====
section
/-! DEFINITION. Memory as a canonical list of cells, the block devices, the router and the data memory accessor
(R80 to R95). -/

namespace Sys2Proof.Machine

/-- What a cell that no entry lists reads as. (DESIGN CHOICE, assumption 2: the spec gives no contents; unsafe.) -/
def unwrittenByte : Byte := 0

/-- The byte of cell `k`. -/
def Memory.read : Memory → Nat → Byte
  | [], _ => unwrittenByte
  | (a, b) :: rest, k => if a = k then b else Memory.read rest k

/-- `mem` with the byte of cell `k` made `b`, in canonical form again. -/
def Memory.write : Memory → Nat → Byte → Memory
  | [], k, b => if b = unwrittenByte then [] else [(k, b)]
  | (a, c) :: rest, k, b =>
    if k < a then
      if b = unwrittenByte then (a, c) :: rest else (k, b) :: (a, c) :: rest
    else if k = a then
      if b = unwrittenByte then rest else (k, b) :: rest
    else (a, c) :: Memory.write rest k b

/-- The canonical form from a lower bound on: cells strictly rising from `lo`, no byte equal to `unwrittenByte`. -/
def Memory.wfFrom : Nat → Memory → Bool
  | _, [] => true
  | lo, (a, b) :: rest => decide (lo ≤ a) && decide (b ≠ unwrittenByte) && Memory.wfFrom (a + 1) rest

/-- The canonical form of memory. -/
def Memory.wf (m : Memory) : Bool := Memory.wfFrom 0 m

/-- The bytes of the low `8n` bits of `v`, the most significant first (R90, R95). -/
def bigEndianBytes : Nat → Dword → List Byte
  | 0, _ => []
  | n + 1, v => (v >>> (8 * n)).setWidth 8 :: bigEndianBytes n v

/-- The value of at most eight bytes, the first most significant (R90, R94). -/
def bigEndianValue (bs : List Byte) : Dword :=
  bs.foldl (fun acc b => (acc <<< 8) ||| b.setWidth 64) 0

/-- The byte a device holds at an offset; none where what a read returns is the device's own (R85 to R87), an offset
at or beyond the Size of a device that is no RAM among them (which a map that is well formed never reaches; DESIGN
CHOICE, assumption 32). -/
def deviceByte (d : Device) (mem : Memory) (off : Nat) : Option Byte :=
  match d with
  | .ram store capacity =>
    some (if off < capacity then Memory.read mem (store + off) else Config.ramOpenBus off)
  | .storage store size => if off < size then some (Memory.read mem (store + off)) else none
  | .rom store size => if off < size then some (Memory.read mem (store + off)) else none
  | .peripheral _ => none
  | .placeholder _ => none

/-- `n` bytes of a device from an offset on. -/
def deviceBytes (d : Device) (mem : Memory) : Nat → Nat → Option (List Byte)
  | _, 0 => some []
  | off, n + 1 =>
    match deviceByte d mem off, deviceBytes d mem (off + 1) n with
    | some b, some bs => some (b :: bs)
    | _, _ => none

/-- Memory after one byte is written to a device (R85, R87): RAM below its capacity and storage take it, RAM at or
above its capacity, storage at or above its Size and placeholders ignore it, a ROM keeps its fixed bytes, and what a
peripheral does with it is the peripheral's own (R86). (DEDUCED for the ROM, assumption 6; DESIGN CHOICE for the
peripheral and for a write at or above a Size, assumptions 7 and 32.) -/
def deviceWriteByte (d : Device) (mem : Memory) (off : Nat) (b : Byte) : Memory :=
  match d with
  | .ram store capacity => if off < capacity then Memory.write mem (store + off) b else mem
  | .storage store size => if off < size then Memory.write mem (store + off) b else mem
  | .rom _ _ => mem
  | .peripheral _ => mem
  | .placeholder _ => mem

/-- `Write(off, bytes)` of R85, byte by byte in address order. -/
def deviceWrite (d : Device) (mem : Memory) : Nat → List Byte → Memory
  | _, [] => mem
  | off, b :: bs => deviceWrite d (deviceWriteByte d mem off b) (off + 1) bs

/-- `GetDevice` and `GetDeviceOffset` of R84: the first window that contains the address, and the offset in it. -/
def resolve : List Window → Nat → Option (Window × Nat)
  | [], _ => none
  | w :: rest, pa =>
    if w.base ≤ pa ∧ pa < w.base + w.length then some (w, pa - w.base) else resolve rest pa

/-- Two windows share no address (R83). -/
def Window.disjoint (v w : Window) : Bool :=
  decide (v.base + v.length ≤ w.base) || decide (w.base + w.length ≤ v.base)

/-- The cells that hold a device's bytes: the first, and how many there are. -/
def Device.cells (d : Device) : Nat × Nat :=
  match d with
  | .ram store capacity => (store, capacity)
  | .storage store size => (store, size)
  | .rom store size => (store, size)
  | .peripheral _ => (0, 0)
  | .placeholder _ => (0, 0)

/-- Two devices are the same or share no cell: one device may stand behind several windows (R83), two devices never hold
one byte. -/
def Device.apart (d e : Device) : Bool :=
  let (first, count) := Device.cells d
  let (first', count') := Device.cells e
  decide (d = e) || decide (first + count ≤ first') || decide (first' + count' ≤ first) || decide (count = 0) ||
    decide (count' = 0)

/-- The window fits its device (R85, R87): longer than the capacity of a RAM, no longer than the Size of another. -/
def Window.fits (w : Window) : Bool :=
  match w.device with
  | .ram _ capacity => decide (capacity < w.length)
  | .storage _ size => decide (w.length ≤ size)
  | .rom _ size => decide (w.length ≤ size)
  | .peripheral size => decide (w.length ≤ size)
  | .placeholder size => decide (w.length ≤ size)

/-- The invariant of `AddressMap` (R83, R85, R87): windows inside the 32-bit range, none overlapping another, each
fitting its device, and no byte held by two devices. (That a window fits its device and that devices share no byte is
DESIGN CHOICE, assumption 32.) -/
def mapWf : List Window → Bool
  | [] => true
  | w :: rest =>
    decide (w.base + w.length ≤ 2 ^ 32) && Window.fits w &&
      rest.all (fun v => Window.disjoint w v && Device.apart w.device v.device) && mapWf rest

/-- What `Translate` makes of an address (R82): a router address, a refill that the `TlbStub` answers, or nothing, where
the translation belongs to the TLB and no stub is supplied. -/
inductive Translation where
  | mapped (pa : Word)
  | refill (kind : RefillKind)
  | outsideBlock
deriving DecidableEq, Repr

/-- What the ranges of a `TlbStub` answer for an address. -/
def stubLookup (miss : RefillKind) (a : Word) : List StubRange → Translation
  | [] => .refill miss
  | r :: rest =>
    if r.base ≤ a.toNat ∧ a.toNat < r.base + r.length then
      match r.answer with
      | .mapped frame => .mapped (frame + BitVec.ofNat 32 (a.toNat - r.base))
      | .refill kind => .refill kind
    else stubLookup miss a rest

/-- `Translate` (R82): the identity; or `TranslateKseg`, which leaves the addresses outside KSEG0 and KSEG1 to the
`TlbStub`. -/
def translate (cfg : Config) (a : Word) : Translation :=
  match cfg.translate with
  | .identity => .mapped a
  | .kseg =>
    if 0x80000000#32 ≤ a ∧ a ≤ 0xBFFFFFFF#32 then .mapped (a &&& 0x1FFFFFFF#32)
    else match cfg.tlbStub with
      | some stub => stubLookup stub.miss a stub.ranges
      | none => .outsideBlock

/-- The router address of an engine address, where there is one. -/
def translateAddr (cfg : Config) (a : Word) : Option Word :=
  match translate cfg a with
  | .mapped pa => some pa
  | .refill _ => none
  | .outsideBlock => none

/-- `SCRATCH_CAPACITY` in bytes (R93, D47). (DESIGN CHOICE, assumption 8: the least value the spec allows.) -/
def scratchCapacity : Nat := 16

/-- What a read of the accessor answers: a value and the machine after the read, the device-not-found condition
`MemFault` (R84, R89), a refill that the `TlbStub` answers (R82), or a refusal. -/
inductive ReadResult (α : Type) where
  | ok (v : α) (s : State)
  | memFault
  | refill (kind : RefillKind)
  | refused (r : Refusal)
deriving DecidableEq, Repr

/-- What a write of the accessor answers. -/
inductive WriteResult where
  | ok (s : State)
  | memFault
  | refill (kind : RefillKind)
  | refused (r : Refusal)
deriving DecidableEq, Repr

/-- The low `n` bytes of a doubleword. -/
def lowBytes (n : Nat) (v : Dword) : Dword := v &&& BitVec.ofNat 64 (2 ^ (8 * n) - 1)

/-- A read of `n ≤ 8` bytes at router address `pa` (R84 to R87, R89): the bytes the device holds, or, where they are
the device's own, a free value of `n` bytes (R86, U1); none is the device-not-found condition. -/
def routerRead (s : State) (pa : Word) (n : Nat) : Option (Dword × State) :=
  match resolve s.map pa.toNat with
  | none => none
  | some (w, off) =>
    if off + n ≤ w.length then
      match deviceBytes w.device s.mem off n with
      | some bs => some (bigEndianValue bs, s)
      | none => some (lowBytes n (Config.freeValue s.draws), { s with draws := s.draws + 1 })
    else none

/-- A write of the low `n ≤ 8` bytes of `v` at router address `pa` (R84 to R87, R89); none is the device-not-found
condition. -/
def routerWrite (s : State) (pa : Word) (n : Nat) (v : Dword) : Option State :=
  match resolve s.map pa.toNat with
  | none => none
  | some (w, off) =>
    if off + n ≤ w.length then
      some { s with mem := deviceWrite w.device s.mem off (bigEndianBytes n v) }
    else none

/-- `MemRead(a, n)` of R94 for `n` up to 8. -/
def memRead (s : State) (a : Word) (n : Nat) : ReadResult Dword :=
  if scratchCapacity < n then .refused .scratchCapacityExceeded
  else match translate s.cfg a with
    | .mapped pa =>
      match routerRead s pa n with
      | some (v, t) => .ok v t
      | none => .memFault
    | .refill kind => .refill kind
    | .outsideBlock => .refused .translationOutsideBlock

/-- `MemWrite(a, n, v)` of R95 for `n` up to 8; `v` holds the value in its low `8n` bits. -/
def memWrite (s : State) (a : Word) (n : Nat) (v : Dword) : WriteResult :=
  if scratchCapacity < n then .refused .scratchCapacityExceeded
  else match translate s.cfg a with
    | .mapped pa =>
      match routerWrite s pa n v with
      | some t => .ok t
      | none => .memFault
    | .refill kind => .refill kind
    | .outsideBlock => .refused .translationOutsideBlock

/-- The 16-byte transfer of R92 and R94: two 8-byte reads, the doubleword at `a` the more significant half. No
instruction uses it. -/
def memRead128 (s : State) (a : Word) : ReadResult (BitVec 128) :=
  if scratchCapacity < 16 then .refused .scratchCapacityExceeded
  else match memRead s a 8 with
    | .ok high s1 =>
      match memRead s1 (a + 8) 8 with
      | .ok low s2 => .ok (high ++ low) s2
      | .memFault => .memFault
      | .refill kind => .refill kind
      | .refused r => .refused r
    | .memFault => .memFault
    | .refill kind => .refill kind
    | .refused r => .refused r

/-- The 16-byte store of R92 and R95: first the more significant half at `a`, then the other at `a + 8`. When the second
half finds no device the first has been stored; the result then is the fault alone, as for every write. -/
def memWrite128 (s : State) (a : Word) (v : BitVec 128) : WriteResult :=
  if scratchCapacity < 16 then .refused .scratchCapacityExceeded
  else match memWrite s a 8 (v.extractLsb' 64 64) with
    | .ok s1 => memWrite s1 (a + 8) 8 (v.extractLsb' 0 64)
    | .memFault => .memFault
    | .refill kind => .refill kind
    | .refused r => .refused r

/-- The cell a write at offset `off` of a device changes, if it changes one (R85, R87). -/
def deviceCell (d : Device) (off : Nat) : Option Nat :=
  match d with
  | .ram store capacity => if off < capacity then some (store + off) else none
  | .storage store size => if off < size then some (store + off) else none
  | .rom _ _ => none
  | .peripheral _ => none
  | .placeholder _ => none

/-- The cells a store of `n` bytes at engine address `a` may change, in address order. -/
def State.storedCells (s : State) (a : Word) (n : Nat) : List Nat :=
  match translateAddr s.cfg a with
  | none => []
  | some pa =>
    match resolve s.map pa.toNat with
    | none => []
    | some (w, off) => (List.range n).filterMap fun i => deviceCell w.device (off + i)

/-- The byte the machine reads at address `a` without any effect: translation, router, device (R80); none where there
is no translation, no device, or a device whose bytes are its own. -/
def State.byteAt (s : State) (a : Word) : Option Byte :=
  match translateAddr s.cfg a with
  | none => none
  | some pa =>
    match resolve s.map pa.toNat with
    | none => none
    | some (w, off) => deviceByte w.device s.mem off

end Sys2Proof.Machine
end

