-- ==== Sys2Proof/Machine/Operands.lean ====
section
/-! DEFINITION. Every operand form: general registers, the views of the floating-point bank, the control registers of
coprocessors 0 and 1, the mode, immediates, shift amounts, effective addresses and branch targets (R9, R20 to R73, R126,
R257, R285, R291, R300, R340). -/

namespace Sys2Proof.Machine

/-- `w` with bit `i` made `b`. -/
def setBit (w : Word) (i : Nat) (b : Bool) : Word :=
  if b then w ||| BitVec.twoPow 32 i else w &&& ~~~(BitVec.twoPow 32 i)

/-- `old` with the bits of `mask` taken from `v` (R285). -/
def mergeMask {n : Nat} (old v mask : BitVec n) : BitVec n := (old &&& ~~~mask) ||| (v &&& mask)

/-! ## Fields of Status and Cause (R56, R59) -/

def State.ie (s : State) : Bool := s.cop0.status.getLsbD 0
def State.exl (s : State) : Bool := s.cop0.status.getLsbD 1
def State.erl (s : State) : Bool := s.cop0.status.getLsbD 2
def State.ksu (s : State) : BitVec 2 := s.cop0.status.extractLsb' 3 2
def State.ux (s : State) : Bool := s.cop0.status.getLsbD 5
def State.sx (s : State) : Bool := s.cop0.status.getLsbD 6
def State.im (s : State) : Byte := s.cop0.status.extractLsb' 8 8
def State.bev (s : State) : Bool := s.cop0.status.getLsbD 22
def State.fr (s : State) : Bool := s.cop0.status.getLsbD 26
def State.cu0 (s : State) : Bool := s.cop0.status.getLsbD 28
def State.cu1 (s : State) : Bool := s.cop0.status.getLsbD 29
def State.cu2 (s : State) : Bool := s.cop0.status.getLsbD 30
def State.ip (s : State) : Byte := s.cop0.cause.extractLsb' 8 8

/-- The three modes of R72. -/
inductive Mode where
  | kernel
  | supervisor
  | user
deriving DecidableEq, Repr

/-- `Mode` (R72); none where KSU = 11 with EXL = ERL = 0 (U16). -/
def State.mode? (s : State) : Option Mode :=
  if s.exl || s.erl then some .kernel
  else match s.ksu with
    | 0#2 => some .kernel
    | 1#2 => some .supervisor
    | 2#2 => some .user
    | _ => none

/-- `Op64` (R72); none where `Mode` has no value. -/
def State.op64? (s : State) : Option Bool :=
  match s.mode? with
  | some .kernel => some true
  | some .supervisor => some s.sx
  | some .user => some s.ux
  | none => none

/-! ## General registers -/

/-- `x[r]`: register 0 reads as zero (R21). -/
def State.readReg (s : State) (r : Reg) : Dword := if r = 0#5 then 0#64 else s.gpr[r.toNat]

/-- `x32[r]` (R23). -/
def State.readWord (s : State) (r : Reg) : Word := trunc32 (s.readReg r)

/-- `x[r] <- v`: a write to register 0 is discarded (R21). -/
def State.writeReg (s : State) (r : Reg) (v : Dword) : State :=
  { s with gpr := if r = 0#5 then s.gpr else s.gpr.set r.toNat v }

/-- `x[r] <-32 v`: the value is written sign-extended in every mode (R23). -/
def State.writeReg32 (s : State) (r : Reg) (v : Word) : State := s.writeReg r (sext64 v)

/-- `HI` and `LO` written together (R25). -/
def State.writeHiLo (s : State) (hi lo : Dword) : State := { s with hi := hi, lo := lo }

/-! ## The floating-point bank (R29 to R32) -/

/-- With FR = 0 the odd register numbers name upper halves of the even cells (R32). -/
def State.upperHalf (s : State) (i : Reg) : Bool := !s.fr && i.getLsbD 0

/-- The cell register number `i` lives in (R32). -/
def State.fpCell (s : State) (i : Reg) : Reg := if s.fr then i else i &&& 0x1E#5

/-- `FW[i]`: the word and single view. -/
def State.readFW (s : State) (i : Reg) : Word :=
  if s.upperHalf i then s.fpr[(s.fpCell i).toNat].extractLsb' 32 32
  else s.fpr[(s.fpCell i).toNat].extractLsb' 0 32

/-- `FW[i] <- v`: the other half of the cell keeps its value (R31). -/
def State.writeFW (s : State) (i : Reg) (v : Word) : State :=
  let old := s.fpr[(s.fpCell i).toNat]
  let new : Dword :=
    if s.upperHalf i then v ++ old.extractLsb' 0 32 else old.extractLsb' 32 32 ++ v
  { s with fpr := s.fpr.set (s.fpCell i).toNat new }

/-- Whether the doubleword view of register `i` exists: not for an odd number while FR = 0 (R32, U13). -/
def State.doubleOk (s : State) (i : Reg) : Bool := s.fr || !i.getLsbD 0

/-- `FD[i]`: the doubleword and double view, where it exists. -/
def State.readFD (s : State) (i : Reg) : Dword := s.fpr[i.toNat]

/-- `FD[i] <- v`, where the view exists. -/
def State.writeFD (s : State) (i : Reg) (v : Dword) : State := { s with fpr := s.fpr.set i.toNat v }

/-! ## Free values -/

/-- The next free value and the machine after it is drawn. -/
def State.draw (s : State) : Dword × State := (Config.freeValue s.draws, { s with draws := s.draws + 1 })

/-! ## Floating-point control registers (R33 to R35) -/

/-- The bits of FCR31 that CTC1 writes (R35). -/
def fcr31Mask : Word := 0x0183FFFF#32

/-- The value CFC1 moves, and the machine after the read (R283): FCR0, FCR31, or a free value for the numbers that name
no register (U14). -/
def State.readFCR (s : State) (n : Reg) : Dword × State :=
  if n = 0#5 then (zext64 s.cfg.fcr0, s)
  else if n = 31#5 then (sext64 s.fcr31, s)
  else s.draw

/-- What CTC1 does (R284). -/
def State.writeFCR (s : State) (n : Reg) (v : Word) : State :=
  { s with fcr31 := if n = 31#5 then v &&& fcr31Mask else s.fcr31 }

/-! ## Coprocessor-0 registers -/

/-- A value of Random from a free value: between Wired and 31 when Wired allows it, else any six bits (R46, U15). -/
def randomFrom (wired : Word) (free : Dword) : Dword :=
  let low := (wired &&& 0x3F#32).toNat
  if low ≤ 31 then BitVec.ofNat 64 (low + free.toNat % (32 - low)) else free &&& 0x3F#64

/-- `C0Read(n)` and the machine after it (R291): 32-bit registers are sign-extended, Random is a draw, numbers that name
no register give a free value (R67, U17), CacheErr and TagHi read zero. -/
def State.readC0 (s : State) (n : Reg) : Dword × State :=
  let c := s.cop0
  match n with
  | 0#5 => (sext64 c.index, s)
  | 1#5 => (randomFrom c.wired s.draw.1, s.draw.2)
  | 2#5 => (c.entryLo0, s)
  | 3#5 => (c.entryLo1, s)
  | 4#5 => (c.context, s)
  | 5#5 => (sext64 c.pageMask, s)
  | 6#5 => (sext64 c.wired, s)
  | 8#5 => (c.badVAddr, s)
  | 9#5 => (sext64 c.count, s)
  | 10#5 => (c.entryHi, s)
  | 11#5 => (sext64 c.compare, s)
  | 12#5 => (sext64 c.status, s)
  | 13#5 => (sext64 c.cause, s)
  | 14#5 => (c.epc, s)
  | 15#5 => (zext64 s.cfg.prid, s)
  | 16#5 => (sext64 c.config, s)
  | 17#5 => (sext64 c.llAddr, s)
  | 18#5 => (sext64 c.watchLo, s)
  | 19#5 => (sext64 c.watchHi, s)
  | 20#5 => (c.xContext, s)
  | 26#5 => (sext64 c.pErr, s)
  | 27#5 => (0, s)
  | 28#5 => (sext64 c.tagLo, s)
  | 29#5 => (0, s)
  | 30#5 => (c.errorEpc, s)
  | _ => s.draw

/-- The coprocessor-0 registers after `C0Write(n, v)` (R285 to R290): the writable bits of R45 to R71, the timer
interrupt cleared by a write to Compare, and nothing for the read-only and the unnamed numbers. -/
def Cop0.write (c : Cop0) (n : Reg) (v : Dword) : Cop0 :=
  let w := trunc32 v
  match n with
  | 0#5 => { c with index := mergeMask c.index w 0x8000003F#32 }
  | 2#5 => { c with entryLo0 := mergeMask c.entryLo0 v 0x0000000003FFFFFF#64 }
  | 3#5 => { c with entryLo1 := mergeMask c.entryLo1 v 0x0000000003FFFFFF#64 }
  | 4#5 => { c with context := mergeMask c.context v 0xFFFFFFFFFF800000#64 }
  | 5#5 => { c with pageMask := mergeMask c.pageMask w 0x01FFE000#32 }
  | 6#5 => { c with wired := mergeMask c.wired w 0x0000003F#32 }
  | 9#5 => { c with count := w }
  | 10#5 => { c with entryHi := mergeMask c.entryHi v 0xC00000FFFFFFE0FF#64 }
  | 11#5 => { c with compare := w, cause := setBit c.cause 15 false }
  | 12#5 => { c with status := mergeMask c.status w 0xFF77FFFF#32 }
  | 13#5 => { c with cause := mergeMask c.cause w 0x00000300#32 }
  | 14#5 => { c with epc := v }
  | 16#5 => { c with config := mergeMask c.config w 0x0F00000F#32 }
  | 17#5 => { c with llAddr := w }
  | 18#5 => { c with watchLo := mergeMask c.watchLo w 0xFFFFFFFB#32 }
  | 19#5 => { c with watchHi := mergeMask c.watchHi w 0x0000000F#32 }
  | 20#5 => { c with xContext := mergeMask c.xContext v 0xFFFFFFFE00000000#64 }
  | 26#5 => { c with pErr := mergeMask c.pErr w 0x000000FF#32 }
  | 28#5 => { c with tagLo := mergeMask c.tagLo w 0x0FFFFFC0#32 }
  | 30#5 => { c with errorEpc := v }
  | _ => c

/-- `C0Write(n, v)` (R285). -/
def State.writeC0 (s : State) (n : Reg) (v : Dword) : State := { s with cop0 := s.cop0.write n v }

/-! ## Shift amounts, comparison widths, addresses -/

/-- The amount of a 32-bit variable shift: the low six bits of `x[rs]`, or five (R257). -/
def shiftAmount32 (bits : VShift32Bits) (x : Dword) : Nat :=
  match bits with
  | .six => (x.extractLsb' 0 6).toNat
  | .five => (x.extractLsb' 0 5).toNat

/-- The amount of a 64-bit variable shift: the low six bits of `x[rs]` (R257). -/
def shiftAmount64 (x : Dword) : Nat := (x.extractLsb' 0 6).toNat

/-- The immediate of SLTI and SLTIU extended as `SLT_IMM_EXT` says (R247, R248). -/
def sltImmediate (ext : SltImmExt) (imm : Half) : Dword :=
  match ext with
  | .sign => sext64 imm
  | .zero => zext64 imm

/-- `EA(base, imm)` from the value of the base register (R340). -/
def effectiveAddress (wide : Bool) (base : Dword) (offset : Half) : Dword :=
  if wide then base + sext64 offset else sext64 (trunc32 base + offset.signExtend 32)

/-- `BRANCH_BASE_ADJ` (R300). -/
def branchBaseAdj (b : BranchBase) : Dword :=
  match b with
  | .ownAddress => 0
  | .delaySlot => 4

/-- `BranchTarget(pc, imm)` (R300). -/
def State.branchTarget (s : State) (offset : Half) : Dword :=
  s.pc + branchBaseAdj s.cfg.branchBase + (sext64 offset <<< 2)

/-- The target of J and JAL (R322, R323). -/
def State.jumpTarget (s : State) (target : BitVec 26) : Dword :=
  (s.pc + 4).extractLsb' 28 36 ++ target ++ 0#2

/-- The return address of every linking transfer (R301). -/
def State.linkAddress (s : State) : Dword := s.pc + 8

end Sys2Proof.Machine
end

