-- ==== Sys2Proof/Machine/Ops.lean ====
section
/-! DEFINITION. The named operations every meaning is made of: how an instruction ends (R167, R168), the gates before it
(R165, R166), delayed transfers (R170, R171), loads and stores (R341), the one taking of an exception (R505 to R508) and
the one return from it (R450). -/

namespace Sys2Proof.Machine

/-- What an instruction or a Step answers. -/
abbrev Answer := Host.Outcome State Fault Refusal

/-! ## How an instruction ends -/

/-- BadVAddr after an exception is recorded: the address of an address error, else unchanged (R482). -/
def badVAddrAfter (e : Exc) (old : Dword) : Dword :=
  match e with
  | .addressErrorLoad va => va
  | .addressErrorStore va => va
  | _ => old

/-- What `raise E(info)` records (R167, R482): the pending exception and BadVAddr, nothing else. -/
def State.recordException (s : State) (e : Exc) : State :=
  { s with
    pending := { s.pending with sync := some e }
    cop0 := { s.cop0 with badVAddr := badVAddrAfter e s.cop0.badVAddr } }

/-- `raise E(info)`: the Step ends in a next state with the exception pending (R13, R167). -/
def raise (e : Exc) (s : State) : Answer := .next (s.recordException e)

/-- The branch unit after an instruction that is no control transfer: a taken branch is over (R168). -/
def BranchUnit.afterAdvance (bu : BranchUnit) : BranchUnit :=
  if bu.branchDelayPending then
    { bu with takeBranch := false, branchDelayPending := false, unconditionalJump := false }
  else bu

/-- Phase E for an instruction that is not ERET (R168): to the target after the delay slot of a taken branch, else to
the next word. -/
def State.advance (s : State) : State :=
  { s with
    pc := if s.bu.branchDelayPending then s.bu.targetAddress else s.pc + 4
    bu := s.bu.afterAdvance }

/-- The instruction completes and the program counter advances (R168). -/
def complete (s : State) : Answer := .next s.advance

/-- A `TlbStub` requests an XTLB refill (R484), with whether the access was a store (R480). That the information it
supplies is that bit alone, that BadVAddr, Context, XContext and EntryHi are not written, and that a request already
pending takes the bit of the later one, is the model's choice. (DESIGN CHOICE, assumption 15.) -/
def State.requestXtlb (s : State) (store : Bool) : State :=
  { s with pending := { s.pending with xtlb := true, xtlbStore := store } }

/-- An access or a fetch that the `TlbStub` answers with a refill (R82, R480, R484, R495): a TLB refill is raised as a
synchronous exception, an XTLB refill is requested, and either ends the instruction with no other effect (R167).
(DESIGN CHOICE, assumption 15: what the stub records.) -/
def raiseRefill (kind : RefillKind) (store : Bool) (s : State) : Answer :=
  match kind with
  | .tlb => raise (.tlbRefill store) s
  | .xtlb => .next (s.requestXtlb store)

/-! ## Gates -/

/-- Continue with `Op64`, which has no value in an undefined mode (R72, U16). -/
def withOp64 (s : State) (k : Bool → Answer) : Answer :=
  match s.op64? with
  | some wide => k wide
  | none => .fault .undefinedMode

/-- The reserved-instruction gate of an instruction flagged `reserved32` (R165). -/
def gate64 (s : State) (k : Answer) : Answer :=
  withOp64 s fun wide => if wide then k else raise .reservedInstruction s

/-- The coprocessor-0 gate (R166, R73). -/
def gateCop0 (s : State) (k : Answer) : Answer :=
  if s.cu0 then k
  else match s.mode? with
    | some .kernel => k
    | some .supervisor => raise (.coprocessorUnusable 0) s
    | some .user => raise (.coprocessorUnusable 0) s
    | none => .fault .undefinedMode

/-- The coprocessor-1 gate (R166). -/
def gateCop1 (s : State) (k : Answer) : Answer :=
  if s.cu1 then k else raise (.coprocessorUnusable 1) s

/-- Continue where the doubleword view of register `i` exists (R32, U13). -/
def gateDouble (s : State) (i : Reg) (k : Answer) : Answer :=
  if s.doubleOk i then k else .fault .oddDoubleRegister

/-! ## Delayed transfers -/

/-- A control transfer has no meaning in the delay slot of a taken branch (R172, U3). -/
def outsideDelaySlot (s : State) (k : Answer) : Answer :=
  if s.bu.branchDelayPending then .refused .controlTransferInDelaySlot else k

/-- `SetBranch(t, uncond)` (R170). -/
def State.setBranch (s : State) (t : Dword) (uncond : Bool) : State :=
  { s with
    bu := { s.bu with
      targetAddress := t, takeBranch := true, branchDelayPending := true, unconditionalJump := uncond } }

/-- `NullifyNext()` (R171). -/
def State.setNullify (s : State) : State := { s with bu := { s.bu with nullifyNext := true } }

/-- Phase E of a control transfer other than ERET: to its delay slot (R168, third arm). -/
def State.toDelaySlot (s : State) : State := { s with pc := s.pc + 4 }

/-! ## Loads and stores -/

/-- The ordinary access of `n` bytes at `va` is refused by the alignment rule (R96, R97). -/
def State.misaligned (s : State) (va : Dword) (n : Nat) : Bool :=
  match s.cfg.misaligned with
  | .trap => decide (va.toNat % n ≠ 0)
  | .perform => false

/-- Steps 2 and 3 of R341 for an ordinary access of `n` bytes: the effective address and its alignment check, with the
exception a misaligned one raises. -/
def withAddress (n : Nat) (misalignedExc : Dword → Exc) (base : Reg) (offset : Half) (s : State)
    (k : Dword → Answer) : Answer :=
  withOp64 s fun wide =>
    let va := effectiveAddress wide (s.readReg base) offset
    if s.misaligned va n then raise (misalignedExc va) s else k va

/-- Step 4 of R341 for a read that an instruction makes, `store` saying which of the two kinds of access a refill reports:
the device-not-found condition is BusErrorData (R113). -/
def readThen (store : Bool) (s : State) (a : Word) (n : Nat) (k : Dword → State → Answer) : Answer :=
  match memRead s a n with
  | .ok v t => k v t
  | .memFault => raise .busErrorData s
  | .refill kind => raiseRefill kind store s
  | .refused r => .refused r

/-- Step 4 of R341 for a load. -/
def loadThen (s : State) (a : Word) (n : Nat) (k : Dword → State → Answer) : Answer := readThen false s a n k

/-- Step 4 of R341 for a store made in state `t` of an instruction that began in state `s`: what it raises leaves `s`
(R167). -/
def storeThen (s t : State) (a : Word) (n : Nat) (v : Dword) (k : State → Answer) : Answer :=
  match memWrite t a n v with
  | .ok u => k u
  | .memFault => raise .busErrorData s
  | .refill kind => raiseRefill kind true s
  | .refused r => .refused r

/-! ## Taking an exception -/

/-- The events `Tick` chooses among (R495). -/
inductive Event where
  | nmi
  | xtlbRefill (store : Bool)
  | cacheError
  | sync (e : Exc)
  | interrupt
deriving DecidableEq, Repr

/-- The error-level class of R480 and R507. -/
def Event.errorLevel (ev : Event) : Bool :=
  match ev with
  | .nmi => true
  | .cacheError => true
  | .xtlbRefill _ => false
  | .sync _ => false
  | .interrupt => false

/-- The code of a synchronous exception (R480). -/
def Exc.code (e : Exc) : BitVec 5 :=
  match e with
  | .tlbRefill store => if store then 3 else 2
  | .addressErrorLoad _ => 4
  | .addressErrorStore _ => 5
  | .busErrorFetch => 6
  | .busErrorData => 7
  | .syscall => 8
  | .breakpoint => 9
  | .reservedInstruction => 10
  | .coprocessorUnusable _ => 11
  | .overflow => 12
  | .trap => 13
  | .floatingPoint => 15

/-- `Cause.CE` for a synchronous exception: the number of the unusable coprocessor, else 0 (R507). -/
def Exc.ce (e : Exc) : BitVec 2 :=
  match e with
  | .coprocessorUnusable n => n
  | _ => 0

/-- `Cause.ExcCode` for an event of the exception-level class (R480); the error-level class does not write it. -/
def Event.code (ev : Event) : BitVec 5 :=
  match ev with
  | .xtlbRefill store => if store then 3 else 2
  | .sync e => e.code
  | .interrupt => 0
  | .nmi => 0
  | .cacheError => 0

/-- `Cause.CE` for an event of the exception-level class (R507). -/
def Event.ce (ev : Event) : BitVec 2 :=
  match ev with
  | .sync e => e.ce
  | .xtlbRefill _ => 0
  | .interrupt => 0
  | .nmi => 0
  | .cacheError => 0

/-- `VEC_BASE_RAM`, `VEC_BASE_BOOT` and `VEC_NMI` (R505). -/
def vecBaseRam : Dword := 0xFFFFFFFF80000000#64
def vecBaseBoot : Dword := 0xFFFFFFFFBFC00200#64
def vecNmi : Dword := 0xFFFFFFFFBFC00000#64

/-- The vector offset of an event that has one, given `Status.EXL` before the dispatch (R505). -/
def Event.offset (ev : Event) (exl : Bool) : Dword :=
  match ev with
  | .cacheError => 0x100
  | .xtlbRefill _ => if exl then 0x180 else 0x080
  | .sync (.tlbRefill _) => if exl then 0x180 else 0x000
  | .sync _ => 0x180
  | .interrupt => 0x180
  | .nmi => 0x180

/-- The vector of an event (R505, R506). -/
def State.vector (s : State) (ev : Event) : Dword :=
  match ev with
  | .nmi => vecNmi
  | _ =>
    if s.cfg.directVector then ev.offset s.exl
    else (if s.bev then vecBaseBoot else vecBaseRam) + ev.offset s.exl

/-- The return address of a dispatch: the branch when the instruction at `pc` is in a delay slot (R507). -/
def State.returnAddress (s : State) : Dword := if s.bu.branchDelayPending then s.pc - 4 else s.pc

/-- What the branch unit leaves in the snapshot (R508). -/
def BranchUnit.saved (bu : BranchUnit) : BranchUnit :=
  if bu.branchDelayPending then
    { bu with takeBranch := false, branchDelayPending := false, unconditionalJump := false, targetAddress := 0 }
  else bu

/-- A dispatch records a return address, BD and the snapshot unless it is of the exception-level class and EXL is
already set (R499, R507). -/
def State.recordsReturn (s : State) (ev : Event) : Bool := ev.errorLevel || !s.exl

/-- Cause after a dispatch (R507): BD where a return address is recorded; ExcCode and CE for the exception-level class;
IP unchanged. -/
def State.causeAfter (s : State) (ev : Event) : Word :=
  let c := if s.recordsReturn ev then setBit s.cop0.cause 31 s.bu.branchDelayPending else s.cop0.cause
  if ev.errorLevel then c
  else mergeMask c ((ev.code.setWidth 32 <<< 2) ||| (ev.ce.setWidth 32 <<< 28)) 0x3000007C#32

/-- Status after a dispatch: ERL or EXL set (R507). -/
def State.statusAfter (s : State) (ev : Event) : Word :=
  if ev.errorLevel then setBit s.cop0.status 2 true else setBit s.cop0.status 1 true

/-- The pending events after one was chosen (R507): the synchronous exception is dropped and the chosen request bit
cleared. -/
def Pending.after (p : Pending) (ev : Event) : Pending :=
  match ev with
  | .nmi => { p with sync := none, nmi := false }
  | .xtlbRefill _ => { p with sync := none, xtlb := false }
  | .cacheError => { p with sync := none, cacheErr := false }
  | .sync _ => { p with sync := none }
  | .interrupt => { p with sync := none }

/-- Taking an exception (R507, R508, R161): the one operation every dispatch goes through. -/
def State.takeException (s : State) (ev : Event) : State :=
  { s with
    pc := s.vector ev
    bu := BranchUnit.clear
    snapshot := if s.recordsReturn ev then s.bu.saved else s.snapshot
    pending := s.pending.after ev
    cop0 := { s.cop0 with
      epc := if ev.errorLevel || s.exl then s.cop0.epc else s.returnAddress
      errorEpc := if ev.errorLevel then s.returnAddress else s.cop0.errorEpc
      cause := s.causeAfter ev
      status := s.statusAfter ev } }

/-- Returning from an exception (R450): the error level first. -/
def State.returnFromException (s : State) : State :=
  { s with
    pc := if s.erl then s.cop0.errorEpc else s.cop0.epc
    bu := s.snapshot
    snapshot := BranchUnit.clear
    llBit := false
    cop0 := { s.cop0 with status := setBit s.cop0.status (if s.erl then 2 else 1) false } }

end Sys2Proof.Machine
end

