-- ==== Sys2Proof/Machine/AddSub.lean ====
section
/-! DEFINITION. Integer add and subtract (R190 to R204). -/

namespace Sys2Proof.Machine

/-- A 32-bit operation that traps on overflow: nothing is written then (R203). -/
def finish32Checked (overflows : Bool) (r : Reg) (v : Word) (s : State) : Answer :=
  if overflows then raise .overflow s else complete (s.writeReg32 r v)

/-- A 64-bit operation that traps on overflow (R203). -/
def finish64Checked (overflows : Bool) (r : Reg) (v : Dword) (s : State) : Answer :=
  if overflows then raise .overflow s else complete (s.writeReg r v)

/-- ADD (R190). -/
def execAdd (rd rs rt : Reg) (s : State) : Answer :=
  finish32Checked (addOverflows (s.readWord rs) (s.readWord rt)) rd (s.readWord rs + s.readWord rt) s

/-- ADDU (R191). -/
def execAddu (rd rs rt : Reg) (s : State) : Answer :=
  complete (s.writeReg32 rd (s.readWord rs + s.readWord rt))

/-- SUB (R192). -/
def execSub (rd rs rt : Reg) (s : State) : Answer :=
  finish32Checked (subOverflows (s.readWord rs) (s.readWord rt)) rd (s.readWord rs - s.readWord rt) s

/-- SUBU (R193). -/
def execSubu (rd rs rt : Reg) (s : State) : Answer :=
  complete (s.writeReg32 rd (s.readWord rs - s.readWord rt))

/-- ADDI (R194). -/
def execAddi (rt rs : Reg) (imm : Half) (s : State) : Answer :=
  finish32Checked (addOverflows (s.readWord rs) (imm.signExtend 32)) rt (s.readWord rs + imm.signExtend 32) s

/-- ADDIU (R195). -/
def execAddiu (rt rs : Reg) (imm : Half) (s : State) : Answer :=
  complete (s.writeReg32 rt (s.readWord rs + imm.signExtend 32))

/-- DADD (R196). -/
def execDadd (rd rs rt : Reg) (s : State) : Answer :=
  gate64 s (finish64Checked (addOverflows (s.readReg rs) (s.readReg rt)) rd (s.readReg rs + s.readReg rt) s)

/-- DADDU (R197). -/
def execDaddu (rd rs rt : Reg) (s : State) : Answer :=
  gate64 s (complete (s.writeReg rd (s.readReg rs + s.readReg rt)))

/-- DSUB (R198). -/
def execDsub (rd rs rt : Reg) (s : State) : Answer :=
  gate64 s (finish64Checked (subOverflows (s.readReg rs) (s.readReg rt)) rd (s.readReg rs - s.readReg rt) s)

/-- DSUBU (R199). -/
def execDsubu (rd rs rt : Reg) (s : State) : Answer :=
  gate64 s (complete (s.writeReg rd (s.readReg rs - s.readReg rt)))

/-- DADDI (R200). -/
def execDaddi (rt rs : Reg) (imm : Half) (s : State) : Answer :=
  gate64 s (finish64Checked (addOverflows (s.readReg rs) (sext64 imm)) rt (s.readReg rs + sext64 imm) s)

/-- DADDIU (R201). -/
def execDaddiu (rt rs : Reg) (imm : Half) (s : State) : Answer :=
  gate64 s (complete (s.writeReg rt (s.readReg rs + sext64 imm)))

end Sys2Proof.Machine
end

