-- ==== Sys2Proof/Machine/Branch.lean ====
section
/-! DEFINITION. Branches and jumps (R300 to R329). None of them moves `pc` to its target: they set the branch unit and
go on to the delay slot. -/

namespace Sys2Proof.Machine

/-- The effect of a branch whose condition came out as `c` (R329): a link first, then a taken transfer, a nullified slot
or nothing. -/
def State.branchEffect (s : State) (c likely link : Bool) (offset : Half) : State :=
  let t := if link then s.writeReg 31 s.linkAddress else s
  if c then t.setBranch (s.branchTarget offset) false
  else if likely then t.setNullify
  else t

/-- The shape of every conditional branch (R329): the condition is evaluated on the values before the link write
(R301). -/
def branch (c likely link : Bool) (offset : Half) (s : State) : Answer :=
  outsideDelaySlot s (.next (s.branchEffect c likely link offset).toDelaySlot)

/-- `x[rs] = x[rt]`, all 64 bits (R328). -/
def State.regsEqual (s : State) (rs rt : Reg) : Bool := decide (s.readReg rs = s.readReg rt)

/-- `signed_64(x[rs]) < 0` (R328). -/
def State.regNegative (s : State) (rs : Reg) : Bool := decide ((s.readReg rs).toInt < 0)

/-- `signed_64(x[rs]) ≤ 0` (R328). -/
def State.regNotPositive (s : State) (rs : Reg) : Bool := decide ((s.readReg rs).toInt ≤ 0)

/-- A register or immediate jump: a link to register `rd` where there is one, then the transfer (R323, R325). -/
def jump (target : Dword) (link : Option Reg) (s : State) : Answer :=
  outsideDelaySlot s (.next
    ((match link with
      | some rd => s.writeReg rd s.linkAddress
      | none => s).setBranch target true).toDelaySlot)

/-- BEQ (R302). -/
def execBeq (rs rt : Reg) (offset : Half) (s : State) : Answer :=
  branch (s.regsEqual rs rt) false false offset s

/-- BNE (R303). -/
def execBne (rs rt : Reg) (offset : Half) (s : State) : Answer :=
  branch (!s.regsEqual rs rt) false false offset s

/-- BEQL (R310). -/
def execBeql (rs rt : Reg) (offset : Half) (s : State) : Answer :=
  branch (s.regsEqual rs rt) true false offset s

/-- BNEL (R311). -/
def execBnel (rs rt : Reg) (offset : Half) (s : State) : Answer :=
  branch (!s.regsEqual rs rt) true false offset s

/-- BLEZ (R304). -/
def execBlez (rs : Reg) (offset : Half) (s : State) : Answer :=
  branch (s.regNotPositive rs) false false offset s

/-- BGTZ (R305). -/
def execBgtz (rs : Reg) (offset : Half) (s : State) : Answer :=
  branch (!s.regNotPositive rs) false false offset s

/-- BLTZ (R306). -/
def execBltz (rs : Reg) (offset : Half) (s : State) : Answer :=
  branch (s.regNegative rs) false false offset s

/-- BGEZ (R307). -/
def execBgez (rs : Reg) (offset : Half) (s : State) : Answer :=
  branch (!s.regNegative rs) false false offset s

/-- BLTZAL (R308). -/
def execBltzal (rs : Reg) (offset : Half) (s : State) : Answer :=
  branch (s.regNegative rs) false true offset s

/-- BGEZAL (R309). -/
def execBgezal (rs : Reg) (offset : Half) (s : State) : Answer :=
  branch (!s.regNegative rs) false true offset s

/-- BLEZL (R312). -/
def execBlezl (rs : Reg) (offset : Half) (s : State) : Answer :=
  branch (s.regNotPositive rs) true false offset s

/-- BGTZL (R313). -/
def execBgtzl (rs : Reg) (offset : Half) (s : State) : Answer :=
  branch (!s.regNotPositive rs) true false offset s

/-- BLTZL (R314). -/
def execBltzl (rs : Reg) (offset : Half) (s : State) : Answer :=
  branch (s.regNegative rs) true false offset s

/-- BGEZL (R315). -/
def execBgezl (rs : Reg) (offset : Half) (s : State) : Answer :=
  branch (!s.regNegative rs) true false offset s

/-- BLTZALL (R316). -/
def execBltzall (rs : Reg) (offset : Half) (s : State) : Answer :=
  branch (s.regNegative rs) true true offset s

/-- BGEZALL (R317). -/
def execBgezall (rs : Reg) (offset : Half) (s : State) : Answer :=
  branch (!s.regNegative rs) true true offset s

/-- BC1F (R318). -/
def execBc1f (offset : Half) (s : State) : Answer :=
  gateCop1 s (branch (!conditionFlag s.fcr31) false false offset s)

/-- BC1T (R319). -/
def execBc1t (offset : Half) (s : State) : Answer :=
  gateCop1 s (branch (conditionFlag s.fcr31) false false offset s)

/-- BC1FL (R320). -/
def execBc1fl (offset : Half) (s : State) : Answer :=
  gateCop1 s (branch (!conditionFlag s.fcr31) true false offset s)

/-- BC1TL (R321). -/
def execBc1tl (offset : Half) (s : State) : Answer :=
  gateCop1 s (branch (conditionFlag s.fcr31) true false offset s)

/-- J (R322). -/
def execJ (target : BitVec 26) (s : State) : Answer := jump (s.jumpTarget target) none s

/-- JAL (R323). -/
def execJal (target : BitVec 26) (s : State) : Answer := jump (s.jumpTarget target) (some 31) s

/-- JR (R324). -/
def execJr (rs : Reg) (s : State) : Answer := jump (s.readReg rs) none s

/-- JALR (R325): the target is read before the link write. -/
def execJalr (rd rs : Reg) (s : State) : Answer := jump (s.readReg rs) (some rd) s

end Sys2Proof.Machine
end

