-- ==== Sys2Proof/Machine/Numerics.lean ====
section
/-! DEFINITION. IEEE 754 binary32 and binary64 arithmetic as rule R393 frames it: operands are unpacked to exact values,
computed exactly, and rounded once at the end. -/

namespace Sys2Proof.Machine

/-- A binary format: the widths of its exponent and fraction fields (R391). -/
structure FloatFormat where
  expBits : Nat
  fracBits : Nat
deriving DecidableEq, Repr

/-- Format S (R391). -/
def FloatFormat.single : FloatFormat := ⟨8, 23⟩

/-- Format D (R391). -/
def FloatFormat.double : FloatFormat := ⟨11, 52⟩

/-- The exponent bias. -/
def FloatFormat.bias (f : FloatFormat) : Nat := 2 ^ (f.expBits - 1) - 1

/-- The exponent of the least normal number. -/
def FloatFormat.minExp (f : FloatFormat) : Int := 1 - (f.bias : Int)

/-- The sign bit of an encoding. -/
def FloatFormat.signOf (f : FloatFormat) (b : Dword) : Bool := b.getLsbD (f.expBits + f.fracBits)

/-- The exponent field of an encoding. -/
def FloatFormat.expOf (f : FloatFormat) (b : Dword) : Nat := b.toNat / 2 ^ f.fracBits % 2 ^ f.expBits

/-- The fraction field of an encoding. -/
def FloatFormat.fracOf (f : FloatFormat) (b : Dword) : Nat := b.toNat % 2 ^ f.fracBits

/-- The encoding with given fields; an exponent and a fraction that carry into one another add up. -/
def FloatFormat.pack (f : FloatFormat) (neg : Bool) (expFrac : Nat) : Dword :=
  BitVec.ofNat 64 ((if neg then 2 ^ (f.expBits + f.fracBits) else 0) + expFrac)

/-- What an encoding stands for: `finite neg m e` is the number `± m · 2^e`. -/
inductive FloatValue where
  | nan
  | inf (neg : Bool)
  | finite (neg : Bool) (mant : Nat) (exp : Int)
deriving DecidableEq, Repr

/-- The value of an encoding. -/
def FloatFormat.value (f : FloatFormat) (b : Dword) : FloatValue :=
  let e := f.expOf b
  let m := f.fracOf b
  if e = 2 ^ f.expBits - 1 then (if m = 0 then .inf (f.signOf b) else .nan)
  else if e = 0 then .finite (f.signOf b) m (f.minExp - f.fracBits)
  else .finite (f.signOf b) (2 ^ f.fracBits + m) ((e : Int) - f.bias - f.fracBits)

/-- The encoding is a NaN. -/
def FloatFormat.isNaN (f : FloatFormat) (b : Dword) : Bool :=
  decide (f.expOf b = 2 ^ f.expBits - 1 ∧ f.fracOf b ≠ 0)

/-- The encoding is a signaling NaN under the convention of `Numerics` (R393). -/
def FloatFormat.isSignaling (f : FloatFormat) (c : NanConvention) (b : Dword) : Bool :=
  f.isNaN b && (match c with
    | .msbSetSignals => b.getLsbD (f.fracBits - 1)
    | .msbClearSignals => !b.getLsbD (f.fracBits - 1))

/-- The encoding is a denormalised number: exponent field zero, fraction not. -/
def FloatFormat.isDenormal (f : FloatFormat) (b : Dword) : Bool := decide (f.expOf b = 0 ∧ f.fracOf b ≠ 0)

/-- A signed zero. -/
def FloatFormat.zero (f : FloatFormat) (neg : Bool) : Dword := f.pack neg 0

/-- A signed infinity. -/
def FloatFormat.infinity (f : FloatFormat) (neg : Bool) : Dword := f.pack neg ((2 ^ f.expBits - 1) * 2 ^ f.fracBits)

/-- The largest finite number, signed. -/
def FloatFormat.largest (f : FloatFormat) (neg : Bool) : Dword :=
  f.pack neg ((2 ^ f.expBits - 1) * 2 ^ f.fracBits - 1)

/-- The rounding modes, in the order of the field RM (R35, R393). -/
inductive Rounding where
  | nearest
  | zero
  | up
  | down
deriving DecidableEq, Repr

/-- The rounding mode a value of RM selects (R35). -/
def Rounding.ofField (rm : BitVec 2) : Rounding :=
  match rm with
  | 0#2 => .nearest
  | 1#2 => .zero
  | 2#2 => .up
  | _ => .down

/-- `m / 2^k` rounded to a natural number, the sign deciding the directed modes, and whether anything was lost. -/
def roundShift (rm : Rounding) (neg : Bool) (m k : Nat) : Nat × Bool :=
  let q := m / 2 ^ k
  let r := m % 2 ^ k
  let lost := decide (r ≠ 0)
  let away :=
    match rm with
    | .nearest => decide (2 ^ k < 2 * r) || (decide (2 * r = 2 ^ k) && decide (q % 2 = 1))
    | .zero => false
    | .up => lost && !neg
    | .down => lost && neg
  (if away then q + 1 else q, lost)

/-- `m · 2^e` rounded to a multiple of `2^q`: the multiple and whether anything was lost. -/
def roundToQuantum (rm : Rounding) (neg : Bool) (m : Nat) (e q : Int) : Nat × Bool :=
  if q ≤ e then (m * 2 ^ (e - q).toNat, false) else roundShift rm neg m (q - e).toNat

/-- What an operation computes (R392 step 3): a result with the exceptions it signals; the NaN an operation with a quiet
NaN operand gives, which is not fixed; or the unimplemented-operation condition. -/
inductive FpOut where
  | result (bits : Dword) (x : Signals)
  | propagateNaN
  | unimplemented
deriving DecidableEq, Repr

/-- What an overflow delivers (IEEE 754 with R393): infinity, or the largest finite number when the mode rounds toward
it. -/
def FloatFormat.overflowed (f : FloatFormat) (rm : Rounding) (neg : Bool) : Dword :=
  match rm with
  | .nearest => f.infinity neg
  | .zero => f.largest neg
  | .up => if neg then f.largest neg else f.infinity neg
  | .down => if neg then f.infinity neg else f.largest neg

/-- The value `m · 2^e`, `m > 0`, is tiny under the chosen detection (R393). -/
def FloatFormat.isTiny (f : FloatFormat) (t : Tininess) (rm : Rounding) (neg : Bool) (m : Nat) (e : Int) : Bool :=
  let top := e + Nat.log2 m
  match t with
  | .beforeRounding => decide (top < f.minExp)
  | .afterRounding =>
    decide (top < f.minExp) &&
      !(decide (top + 1 = f.minExp) &&
        decide ((roundToQuantum rm neg m e (top - f.fracBits)).1 = 2 ^ (f.fracBits + 1)))

/-- The exact value `± m · 2^e` rounded into the format (R393): overflow, underflow and inexact signalled as IEEE 754
defines them, underflow when the result is tiny and inexact. -/
def FloatFormat.round (f : FloatFormat) (nu : Numerics) (fs : Bool) (rm : Rounding) (neg : Bool) (m : Nat) (e : Int) :
    FpOut :=
  if m = 0 then .result (f.zero neg) Signals.none
  else
    let top := e + Nat.log2 m
    let q := max top f.minExp - f.fracBits
    let (r, lost) := roundToQuantum rm neg m e q
    let expFrac := if 2 ^ f.fracBits ≤ r then (q + f.fracBits + f.bias - 1).toNat * 2 ^ f.fracBits + r else r
    let tiny := f.isTiny nu.tininess rm neg m e
    if (2 ^ f.expBits - 1) * 2 ^ f.fracBits ≤ expFrac then
      .result (f.overflowed rm neg) (Signals.overflow ||| Signals.inexact)
    else match nu.denormal with
      | .gradual =>
        .result (f.pack neg expFrac)
          ((if lost then Signals.inexact else 0) ||| (if tiny && lost then Signals.underflow else 0))
      | .unimplemented =>
        if tiny then
          if fs then .result (f.zero neg) (Signals.underflow ||| Signals.inexact) else .unimplemented
        else .result (f.pack neg expFrac) (if lost then Signals.inexact else 0)

/-- The NaN of an invalid operation (R393). -/
def FloatFormat.defaultNaN (f : FloatFormat) (nu : Numerics) : Dword :=
  if f = FloatFormat.single then zext64 nu.defaultNaN32 else nu.defaultNaN64

/-- An invalid operation: V and the default NaN (R393). -/
def FloatFormat.invalidOut (f : FloatFormat) (nu : Numerics) : FpOut := .result (f.defaultNaN nu) Signals.invalid

/-- What the operands decide before any arithmetic (R393): a signaling NaN signals V, another NaN propagates, and a
denormalised operand is unimplemented where `Numerics` says so. R393 does not say which prevails where one operand is a
NaN and another denormalised: that the NaN decides is the model's choice. (DESIGN CHOICE, assumption 33.) `src` is the
operands' format, `dst` the result's. -/
def operandOutcome (src dst : FloatFormat) (nu : Numerics) (operands : List Dword) : Option FpOut :=
  if operands.any (src.isSignaling nu.nan) then some (dst.invalidOut nu)
  else if operands.any src.isNaN then some .propagateNaN
  else if decide (nu.denormal = .unimplemented) && operands.any src.isDenormal then some .unimplemented
  else none

/-- The sign of an exact zero sum of operands of unlike signs (IEEE 754): minus only when rounding toward minus
infinity. -/
def zeroSumSign (rm : Rounding) : Bool := decide (rm = .down)

/-- The exact sum of two finite numbers, rounded. -/
def FloatFormat.addFinite (f : FloatFormat) (nu : Numerics) (fs : Bool) (rm : Rounding)
    (na : Bool) (ma : Nat) (ea : Int) (nb : Bool) (mb : Nat) (eb : Int) : FpOut :=
  let e := min ea eb
  let a : Int := (ma * 2 ^ (ea - e).toNat : Nat)
  let b : Int := (mb * 2 ^ (eb - e).toNat : Nat)
  let sum := (if na then -a else a) + (if nb then -b else b)
  if sum = 0 then .result (f.zero (if na = nb then na else zeroSumSign rm)) Signals.none
  else f.round nu fs rm (decide (sum < 0)) sum.natAbs e

/-- Addition (R394); subtraction is addition of the opposite (R395). -/
def FloatFormat.add (f : FloatFormat) (nu : Numerics) (fs : Bool) (rm : Rounding) (negateB : Bool)
    (a b : Dword) : FpOut :=
  match operandOutcome f f nu [a, b] with
  | some o => o
  | none =>
    match f.value a, f.value b with
    | .finite na ma ea, .finite nb mb eb => f.addFinite nu fs rm na ma ea (nb ^^ negateB) mb eb
    | .inf na, .inf nb => if na = (nb ^^ negateB) then .result (f.infinity na) Signals.none else f.invalidOut nu
    | .inf na, _ => .result (f.infinity na) Signals.none
    | _, .inf nb => .result (f.infinity (nb ^^ negateB)) Signals.none
    | _, _ => f.invalidOut nu

/-- Multiplication (R396). -/
def FloatFormat.mul (f : FloatFormat) (nu : Numerics) (fs : Bool) (rm : Rounding) (a b : Dword) : FpOut :=
  match operandOutcome f f nu [a, b] with
  | some o => o
  | none =>
    match f.value a, f.value b with
    | .finite na ma ea, .finite nb mb eb => f.round nu fs rm (na ^^ nb) (ma * mb) (ea + eb)
    | .inf na, .inf nb => .result (f.infinity (na ^^ nb)) Signals.none
    | .inf na, .finite nb mb _ =>
      if mb = 0 then f.invalidOut nu else .result (f.infinity (na ^^ nb)) Signals.none
    | .finite na ma _, .inf nb =>
      if ma = 0 then f.invalidOut nu else .result (f.infinity (na ^^ nb)) Signals.none
    | _, _ => f.invalidOut nu

/-- The exact quotient of two finite numbers to enough bits for one correct rounding, the last bit standing for all that
follows. -/
def FloatFormat.divFinite (f : FloatFormat) (nu : Numerics) (fs : Bool) (rm : Rounding)
    (neg : Bool) (ma : Nat) (ea : Int) (mb : Nat) (eb : Int) : FpOut :=
  let k := 2 * f.fracBits + 6
  let q := ma * 2 ^ k / mb
  let sticky := if ma * 2 ^ k % mb = 0 then 0 else 1
  f.round nu fs rm neg (2 * q + sticky) (ea - eb - k - 1)

/-- Division (R397). -/
def FloatFormat.div (f : FloatFormat) (nu : Numerics) (fs : Bool) (rm : Rounding) (a b : Dword) : FpOut :=
  match operandOutcome f f nu [a, b] with
  | some o => o
  | none =>
    match f.value a, f.value b with
    | .finite na ma ea, .finite nb mb eb =>
      if mb = 0 then
        if ma = 0 then f.invalidOut nu else .result (f.infinity (na ^^ nb)) Signals.divideByZero
      else f.divFinite nu fs rm (na ^^ nb) ma ea mb eb
    | .inf _, .inf _ => f.invalidOut nu
    | .inf na, .finite nb _ _ => .result (f.infinity (na ^^ nb)) Signals.none
    | .finite na _ _, .inf nb => .result (f.zero (na ^^ nb)) Signals.none
    | _, _ => f.invalidOut nu

/-- The largest `r` with `r² ≤ x`, found bit by bit from bit `i - 1` down on top of `r`. -/
def squareRootFrom : Nat → Nat → Nat → Nat
  | 0, _, r => r
  | i + 1, x, r => if (r + 2 ^ i) * (r + 2 ^ i) ≤ x then squareRootFrom i x (r + 2 ^ i) else squareRootFrom i x r

/-- Square root of a positive number, correctly rounded: the radicand is widened to an even exponent, and the last bit
stands for all that follows. -/
def FloatFormat.sqrtFinite (f : FloatFormat) (nu : Numerics) (fs : Bool) (rm : Rounding) (m : Nat) (e : Int) : FpOut :=
  let k := 2 * f.fracBits + 6 + (e % 2).toNat
  let x := m * 2 ^ k
  let r := squareRootFrom (2 * f.fracBits + 6) x 0
  let sticky := if r * r = x then 0 else 1
  f.round nu fs rm false (2 * r + sticky) ((e - k) / 2 - 1)

/-- Square root (R398). -/
def FloatFormat.sqrt (f : FloatFormat) (nu : Numerics) (fs : Bool) (rm : Rounding) (a : Dword) : FpOut :=
  match operandOutcome f f nu [a] with
  | some o => o
  | none =>
    match f.value a with
    | .finite neg m e =>
      if m = 0 then .result (f.zero neg) Signals.none
      else if neg then f.invalidOut nu
      else f.sqrtFinite nu fs rm m e
    | .inf neg => if neg then f.invalidOut nu else .result (f.infinity false) Signals.none
    | .nan => f.invalidOut nu

/-- A NaN operand of ABS or NEG: a sign-bit operation or Invalid, as `absNegOnNaN` says (R393, U8); every other operand
has its sign bit changed (R399, R401). -/
def FloatFormat.signOperation (f : FloatFormat) (nu : Numerics) (a changed : Dword) : FpOut :=
  if f.isNaN a then
    match nu.absNegOnNaN with
    | .signBit => .result changed Signals.none
    | .invalid => f.invalidOut nu
  else .result changed Signals.none

/-- The sign bit of the format. -/
def FloatFormat.signBit (f : FloatFormat) : Dword := BitVec.twoPow 64 (f.expBits + f.fracBits)

/-- Absolute value (R399). -/
def FloatFormat.abs (f : FloatFormat) (nu : Numerics) (a : Dword) : FpOut :=
  f.signOperation nu a (a &&& ~~~f.signBit)

/-- Negation (R401). -/
def FloatFormat.neg (f : FloatFormat) (nu : Numerics) (a : Dword) : FpOut := f.signOperation nu a (a ^^^ f.signBit)

/-- Conversion between the two binary formats (R410, R411). -/
def FloatFormat.convert (src dst : FloatFormat) (nu : Numerics) (fs : Bool) (rm : Rounding) (a : Dword) : FpOut :=
  match operandOutcome src dst nu [a] with
  | some o => o
  | none =>
    match src.value a with
    | .finite neg m e => dst.round nu fs rm neg m e
    | .inf neg => .result (dst.infinity neg) Signals.none
    | .nan => dst.invalidOut nu

/-- Conversion from an integer (R410, R411). -/
def FloatFormat.ofInt (dst : FloatFormat) (nu : Numerics) (fs : Bool) (rm : Rounding) (i : Int) : FpOut :=
  dst.round nu fs rm (decide (i < 0)) i.natAbs 0

/-- The result of a conversion to an `n`-bit integer that is out of range, or of a NaN or an infinity (R393, R432). -/
def intOverflowOut (nu : Numerics) (n : Nat) : FpOut :=
  .result (if n = 32 then zext64 nu.intOverflow32 else nu.intOverflow64) Signals.invalid

/-- `ToInt(N, m, v)` (R432). -/
def FloatFormat.toInteger (src : FloatFormat) (nu : Numerics) (n : Nat) (rm : Rounding) (a : Dword) : FpOut :=
  if decide (nu.denormal = .unimplemented) && src.isDenormal a then .unimplemented
  else
    match src.value a with
    | .nan => intOverflowOut nu n
    | .inf _ => intOverflowOut nu n
    | .finite neg m e =>
      let (r, lost) := roundToQuantum rm neg m e 0
      let i : Int := if neg then -(r : Int) else r
      if signedOverflow n i then intOverflowOut nu n
      else .result (BitVec.ofInt 64 i &&& BitVec.ofNat 64 (2 ^ n - 1)) (if lost then Signals.inexact else 0)

/-- The order of two finite numbers: the exact values compared at a common exponent. -/
def finiteInt (neg : Bool) (m : Nat) (e common : Int) : Int :=
  let a : Int := (m * 2 ^ (e - common).toNat : Nat)
  if neg then -a else a

/-- `a < b` as IEEE 754 orders numbers; false when either is a NaN (R414). -/
def FloatFormat.less (f : FloatFormat) (a b : Dword) : Bool :=
  match f.value a, f.value b with
  | .finite na ma ea, .finite nb mb eb =>
    decide (finiteInt na ma ea (min ea eb) < finiteInt nb mb eb (min ea eb))
  | .inf na, .inf nb => na && !nb
  | .inf na, .finite _ _ _ => na
  | .finite _ _ _, .inf nb => !nb
  | _, _ => false

/-- `a = b` as IEEE 754 compares numbers: zeros are equal; false when either is a NaN (R414). -/
def FloatFormat.equal (f : FloatFormat) (a b : Dword) : Bool :=
  match f.value a, f.value b with
  | .finite na ma ea, .finite nb mb eb =>
    decide (finiteInt na ma ea (min ea eb) = finiteInt nb mb eb (min ea eb))
  | .inf na, .inf nb => decide (na = nb)
  | _, _ => false

/-- Either operand is a NaN (R414). -/
def FloatFormat.unordered (f : FloatFormat) (a b : Dword) : Bool := f.isNaN a || f.isNaN b

end Sys2Proof.Machine
end

