-- ==== Sys2Proof/Machine/Fp.lean ====
section
/-! DEFINITION. The floating-point operations of coprocessor 1 (R390 to R433): the common sequence of R392, and one
meaning for each operation and format. -/

namespace Sys2Proof.Machine

/-- The two widths of view a format reads and writes (R391): S and W through `FW`, D and L through `FD`. -/
inductive FpView where
  | word
  | dword
deriving DecidableEq, Repr

/-- The view of a binary format (R391). -/
def FloatFormat.view (f : FloatFormat) : FpView := if f = FloatFormat.single then .word else .dword

/-- Continue where the view of register `i` exists (R32, U13). -/
def gateView (s : State) (v : FpView) (i : Reg) (k : Answer) : Answer :=
  match v with
  | .word => k
  | .dword => gateDouble s i k

/-- `Rd(fmt, i)` (R391). -/
def State.readView (s : State) (v : FpView) (i : Reg) : Dword :=
  match v with
  | .word => zext64 (s.readFW i)
  | .dword => s.readFD i

/-- `Wr(fmt, i, v)` (R391). -/
def State.writeView (s : State) (v : FpView) (i : Reg) (x : Dword) : State :=
  match v with
  | .word => s.writeFW i (trunc32 x)
  | .dword => s.writeFD i x

/-- The rounding mode of FCR31 (R35). -/
def State.rounding (s : State) : Rounding := Rounding.ofField (roundingField s.fcr31)

/-- The result for a quiet NaN operand (R393): a NaN, and which one is a free value. -/
def FloatFormat.someNaN (f : FloatFormat) (free : Dword) : Dword :=
  let b := lowBytes ((f.expBits + f.fracBits + 1) / 8) free
  if f.isNaN b then b else f.pack false (2 ^ (f.expBits + f.fracBits) - 1)

/-- Steps 4 to 7 of R392: Cause takes the signalled set, an enabled one raises with nothing else written, else the flags
accumulate and `k` writes the result. -/
def fpCommit (s : State) (x : Signals) (k : State → Answer) : Answer :=
  let f := withCause s.fcr31 (causeOfSignals x)
  if x &&& enableField s.fcr31 = 0 then k { s with fcr31 := withFlags f x }
  else raise .floatingPoint { s with fcr31 := f }

/-- The unimplemented-operation trap (R392 steps 2 and 3). -/
def fpUnimplemented (s : State) : Answer :=
  raise .floatingPoint { s with fcr31 := withCause s.fcr31 causeUnimplemented }

/-- Step 7 of R392 for a register destination. -/
def writeResult (v : FpView) (fd : Reg) (bits : Dword) (s : State) : Answer :=
  gateView s v fd (complete (s.writeView v fd bits))

/-- Steps 3 to 7 of R392 for an operation whose result is a number in format `dst`, or an integer in view `v`. -/
def fpFinish (s : State) (dst : FloatFormat) (v : FpView) (fd : Reg) (out : FpOut) : Answer :=
  match out with
  | .result bits x => fpCommit s x (writeResult v fd bits)
  | .propagateNaN => fpCommit s.draw.2 Signals.none (writeResult v fd (dst.someNaN s.draw.1))
  | .unimplemented => fpUnimplemented s

/-- An operation of two operands in one format (R394 to R397). -/
def fpBinary (f : FloatFormat) (op : Numerics → Bool → Rounding → Dword → Dword → FpOut) (fd fs ft : Reg) (s : State) :
    Answer :=
  gateCop1 s (gateView s f.view fs (gateView s f.view ft
    (fpFinish s f f.view fd
      (op s.cfg.numerics (flushField s.fcr31) s.rounding (s.readView f.view fs) (s.readView f.view ft)))))

/-- An operation of one operand read through view `src`, with its result in format `dst` written through view `v`. -/
def fpUnary (src : FpView) (dst : FloatFormat) (v : FpView) (op : Numerics → Bool → Rounding → Dword → FpOut)
    (fd fs : Reg) (s : State) : Answer :=
  gateCop1 s (gateView s src fs
    (fpFinish s dst v fd (op s.cfg.numerics (flushField s.fcr31) s.rounding (s.readView src fs))))

/-- A conversion to an `n`-bit integer with the rounding mode of its name, or that of FCR31 (R402 to R409, R412,
R413, R432). -/
def fpToInteger (f : FloatFormat) (n : Nat) (rm : Option Rounding) (fd fs : Reg) (s : State) : Answer :=
  fpUnary f.view f (if n = 32 then .word else .dword)
    (fun nu _ mode a => f.toInteger nu n (rm.getD mode) a) fd fs s

/-- MOV.fmt (R400): a copy of bits, FCR31 untouched. -/
def fpMove (v : FpView) (fd fs : Reg) (s : State) : Answer :=
  gateCop1 s (gateView s v fs (writeResult v fd (s.readView v fs) s))

/-- The predicate of a compare (R414): `cond[2]` less, `cond[1]` equal, `cond[0]` unordered. -/
def FloatFormat.compare (f : FloatFormat) (cond : BitVec 4) (a b : Dword) : Bool :=
  (cond.getLsbD 2 && f.less a b) || (cond.getLsbD 1 && f.equal a b) || (cond.getLsbD 0 && f.unordered a b)

/-- A compare signals Invalid (R414). -/
def FloatFormat.compareInvalid (f : FloatFormat) (nu : Numerics) (cond : BitVec 4) (a b : Dword) : Bool :=
  f.unordered a b &&
    (cond.getLsbD 3 || (nu.compareSNaNSignals && (f.isSignaling nu.nan a || f.isSignaling nu.nan b)))

/-- C.cond.fmt (R414). -/
def fpCompare (f : FloatFormat) (cond : BitVec 4) (fs ft : Reg) (s : State) : Answer :=
  gateCop1 s (gateView s f.view fs (gateView s f.view ft
    (let a := s.readView f.view fs
     let b := s.readView f.view ft
     fpCommit s (if f.compareInvalid s.cfg.numerics cond a b then Signals.invalid else Signals.none) fun t =>
       complete { t with fcr31 := withConditionFlag t.fcr31 (f.compare cond a b) })))

/-- ADD.S (R394). -/
def execAddS (fd fs ft : Reg) (s : State) : Answer :=
  fpBinary FloatFormat.single (fun nu fl rm a b => FloatFormat.single.add nu fl rm false a b) fd fs ft s

/-- ADD.D (R394). -/
def execAddD (fd fs ft : Reg) (s : State) : Answer :=
  fpBinary FloatFormat.double (fun nu fl rm a b => FloatFormat.double.add nu fl rm false a b) fd fs ft s

/-- SUB.S (R395). -/
def execSubS (fd fs ft : Reg) (s : State) : Answer :=
  fpBinary FloatFormat.single (fun nu fl rm a b => FloatFormat.single.add nu fl rm true a b) fd fs ft s

/-- SUB.D (R395). -/
def execSubD (fd fs ft : Reg) (s : State) : Answer :=
  fpBinary FloatFormat.double (fun nu fl rm a b => FloatFormat.double.add nu fl rm true a b) fd fs ft s

/-- MUL.S (R396). -/
def execMulS (fd fs ft : Reg) (s : State) : Answer :=
  fpBinary FloatFormat.single FloatFormat.single.mul fd fs ft s

/-- MUL.D (R396). -/
def execMulD (fd fs ft : Reg) (s : State) : Answer :=
  fpBinary FloatFormat.double FloatFormat.double.mul fd fs ft s

/-- DIV.S (R397). -/
def execDivS (fd fs ft : Reg) (s : State) : Answer :=
  fpBinary FloatFormat.single FloatFormat.single.div fd fs ft s

/-- DIV.D (R397). -/
def execDivD (fd fs ft : Reg) (s : State) : Answer :=
  fpBinary FloatFormat.double FloatFormat.double.div fd fs ft s

/-- SQRT.S (R398). -/
def execSqrtS (fd fs : Reg) (s : State) : Answer :=
  fpUnary .word FloatFormat.single .word FloatFormat.single.sqrt fd fs s

/-- SQRT.D (R398). -/
def execSqrtD (fd fs : Reg) (s : State) : Answer :=
  fpUnary .dword FloatFormat.double .dword FloatFormat.double.sqrt fd fs s

/-- ABS.S (R399). -/
def execAbsS (fd fs : Reg) (s : State) : Answer :=
  fpUnary .word FloatFormat.single .word (fun nu _ _ a => FloatFormat.single.abs nu a) fd fs s

/-- ABS.D (R399). -/
def execAbsD (fd fs : Reg) (s : State) : Answer :=
  fpUnary .dword FloatFormat.double .dword (fun nu _ _ a => FloatFormat.double.abs nu a) fd fs s

/-- MOV.S (R400). -/
def execMovS (fd fs : Reg) (s : State) : Answer :=
  fpMove .word fd fs s

/-- MOV.D (R400). -/
def execMovD (fd fs : Reg) (s : State) : Answer :=
  fpMove .dword fd fs s

/-- NEG.S (R401). -/
def execNegS (fd fs : Reg) (s : State) : Answer :=
  fpUnary .word FloatFormat.single .word (fun nu _ _ a => FloatFormat.single.neg nu a) fd fs s

/-- NEG.D (R401). -/
def execNegD (fd fs : Reg) (s : State) : Answer :=
  fpUnary .dword FloatFormat.double .dword (fun nu _ _ a => FloatFormat.double.neg nu a) fd fs s

/-- ROUND.L.S (R402). -/
def execRoundLS (fd fs : Reg) (s : State) : Answer :=
  fpToInteger FloatFormat.single 64 (some .nearest) fd fs s

/-- ROUND.L.D (R402). -/
def execRoundLD (fd fs : Reg) (s : State) : Answer :=
  fpToInteger FloatFormat.double 64 (some .nearest) fd fs s

/-- TRUNC.L.S (R403). -/
def execTruncLS (fd fs : Reg) (s : State) : Answer :=
  fpToInteger FloatFormat.single 64 (some .zero) fd fs s

/-- TRUNC.L.D (R403). -/
def execTruncLD (fd fs : Reg) (s : State) : Answer :=
  fpToInteger FloatFormat.double 64 (some .zero) fd fs s

/-- CEIL.L.S (R404). -/
def execCeilLS (fd fs : Reg) (s : State) : Answer :=
  fpToInteger FloatFormat.single 64 (some .up) fd fs s

/-- CEIL.L.D (R404). -/
def execCeilLD (fd fs : Reg) (s : State) : Answer :=
  fpToInteger FloatFormat.double 64 (some .up) fd fs s

/-- FLOOR.L.S (R405). -/
def execFloorLS (fd fs : Reg) (s : State) : Answer :=
  fpToInteger FloatFormat.single 64 (some .down) fd fs s

/-- FLOOR.L.D (R405). -/
def execFloorLD (fd fs : Reg) (s : State) : Answer :=
  fpToInteger FloatFormat.double 64 (some .down) fd fs s

/-- ROUND.W.S (R406). -/
def execRoundWS (fd fs : Reg) (s : State) : Answer :=
  fpToInteger FloatFormat.single 32 (some .nearest) fd fs s

/-- ROUND.W.D (R406). -/
def execRoundWD (fd fs : Reg) (s : State) : Answer :=
  fpToInteger FloatFormat.double 32 (some .nearest) fd fs s

/-- TRUNC.W.S (R407). -/
def execTruncWS (fd fs : Reg) (s : State) : Answer :=
  fpToInteger FloatFormat.single 32 (some .zero) fd fs s

/-- TRUNC.W.D (R407). -/
def execTruncWD (fd fs : Reg) (s : State) : Answer :=
  fpToInteger FloatFormat.double 32 (some .zero) fd fs s

/-- CEIL.W.S (R408). -/
def execCeilWS (fd fs : Reg) (s : State) : Answer :=
  fpToInteger FloatFormat.single 32 (some .up) fd fs s

/-- CEIL.W.D (R408). -/
def execCeilWD (fd fs : Reg) (s : State) : Answer :=
  fpToInteger FloatFormat.double 32 (some .up) fd fs s

/-- FLOOR.W.S (R409). -/
def execFloorWS (fd fs : Reg) (s : State) : Answer :=
  fpToInteger FloatFormat.single 32 (some .down) fd fs s

/-- FLOOR.W.D (R409). -/
def execFloorWD (fd fs : Reg) (s : State) : Answer :=
  fpToInteger FloatFormat.double 32 (some .down) fd fs s

/-- CVT.S.D (R410). -/
def execCvtSD (fd fs : Reg) (s : State) : Answer :=
  fpUnary .dword FloatFormat.single .word (FloatFormat.double.convert FloatFormat.single) fd fs s

/-- CVT.S.W (R410). -/
def execCvtSW (fd fs : Reg) (s : State) : Answer :=
  fpUnary .word FloatFormat.single .word (fun nu fl rm a => FloatFormat.single.ofInt nu fl rm (trunc32 a).toInt) fd fs s

/-- CVT.S.L (R410). -/
def execCvtSL (fd fs : Reg) (s : State) : Answer :=
  fpUnary .dword FloatFormat.single .word (fun nu fl rm a => FloatFormat.single.ofInt nu fl rm a.toInt) fd fs s

/-- CVT.D.S (R411). -/
def execCvtDS (fd fs : Reg) (s : State) : Answer :=
  fpUnary .word FloatFormat.double .dword (FloatFormat.single.convert FloatFormat.double) fd fs s

/-- CVT.D.W (R411). -/
def execCvtDW (fd fs : Reg) (s : State) : Answer :=
  fpUnary .word FloatFormat.double .dword (fun nu fl rm a => FloatFormat.double.ofInt nu fl rm (trunc32 a).toInt) fd fs s

/-- CVT.D.L (R411). -/
def execCvtDL (fd fs : Reg) (s : State) : Answer :=
  fpUnary .dword FloatFormat.double .dword (fun nu fl rm a => FloatFormat.double.ofInt nu fl rm a.toInt) fd fs s

/-- CVT.W.S (R412). -/
def execCvtWS (fd fs : Reg) (s : State) : Answer :=
  fpToInteger FloatFormat.single 32 none fd fs s

/-- CVT.W.D (R412). -/
def execCvtWD (fd fs : Reg) (s : State) : Answer :=
  fpToInteger FloatFormat.double 32 none fd fs s

/-- CVT.L.S (R413). -/
def execCvtLS (fd fs : Reg) (s : State) : Answer :=
  fpToInteger FloatFormat.single 64 none fd fs s

/-- CVT.L.D (R413). -/
def execCvtLD (fd fs : Reg) (s : State) : Answer :=
  fpToInteger FloatFormat.double 64 none fd fs s

/-- C.F.S (R415). -/
def execCFS (fs ft : Reg) (s : State) : Answer :=
  fpCompare FloatFormat.single 0#4 fs ft s

/-- C.F.D (R415). -/
def execCFD (fs ft : Reg) (s : State) : Answer :=
  fpCompare FloatFormat.double 0#4 fs ft s

/-- C.UN.S (R416). -/
def execCUnS (fs ft : Reg) (s : State) : Answer :=
  fpCompare FloatFormat.single 1#4 fs ft s

/-- C.UN.D (R416). -/
def execCUnD (fs ft : Reg) (s : State) : Answer :=
  fpCompare FloatFormat.double 1#4 fs ft s

/-- C.EQ.S (R417). -/
def execCEqS (fs ft : Reg) (s : State) : Answer :=
  fpCompare FloatFormat.single 2#4 fs ft s

/-- C.EQ.D (R417). -/
def execCEqD (fs ft : Reg) (s : State) : Answer :=
  fpCompare FloatFormat.double 2#4 fs ft s

/-- C.UEQ.S (R418). -/
def execCUeqS (fs ft : Reg) (s : State) : Answer :=
  fpCompare FloatFormat.single 3#4 fs ft s

/-- C.UEQ.D (R418). -/
def execCUeqD (fs ft : Reg) (s : State) : Answer :=
  fpCompare FloatFormat.double 3#4 fs ft s

/-- C.OLT.S (R419). -/
def execCOltS (fs ft : Reg) (s : State) : Answer :=
  fpCompare FloatFormat.single 4#4 fs ft s

/-- C.OLT.D (R419). -/
def execCOltD (fs ft : Reg) (s : State) : Answer :=
  fpCompare FloatFormat.double 4#4 fs ft s

/-- C.ULT.S (R420). -/
def execCUltS (fs ft : Reg) (s : State) : Answer :=
  fpCompare FloatFormat.single 5#4 fs ft s

/-- C.ULT.D (R420). -/
def execCUltD (fs ft : Reg) (s : State) : Answer :=
  fpCompare FloatFormat.double 5#4 fs ft s

/-- C.OLE.S (R421). -/
def execCOleS (fs ft : Reg) (s : State) : Answer :=
  fpCompare FloatFormat.single 6#4 fs ft s

/-- C.OLE.D (R421). -/
def execCOleD (fs ft : Reg) (s : State) : Answer :=
  fpCompare FloatFormat.double 6#4 fs ft s

/-- C.ULE.S (R422). -/
def execCUleS (fs ft : Reg) (s : State) : Answer :=
  fpCompare FloatFormat.single 7#4 fs ft s

/-- C.ULE.D (R422). -/
def execCUleD (fs ft : Reg) (s : State) : Answer :=
  fpCompare FloatFormat.double 7#4 fs ft s

/-- C.SF.S (R423). -/
def execCSfS (fs ft : Reg) (s : State) : Answer :=
  fpCompare FloatFormat.single 8#4 fs ft s

/-- C.SF.D (R423). -/
def execCSfD (fs ft : Reg) (s : State) : Answer :=
  fpCompare FloatFormat.double 8#4 fs ft s

/-- C.NGLE.S (R424). -/
def execCNgleS (fs ft : Reg) (s : State) : Answer :=
  fpCompare FloatFormat.single 9#4 fs ft s

/-- C.NGLE.D (R424). -/
def execCNgleD (fs ft : Reg) (s : State) : Answer :=
  fpCompare FloatFormat.double 9#4 fs ft s

/-- C.SEQ.S (R425). -/
def execCSeqS (fs ft : Reg) (s : State) : Answer :=
  fpCompare FloatFormat.single 10#4 fs ft s

/-- C.SEQ.D (R425). -/
def execCSeqD (fs ft : Reg) (s : State) : Answer :=
  fpCompare FloatFormat.double 10#4 fs ft s

/-- C.NGL.S (R426). -/
def execCNglS (fs ft : Reg) (s : State) : Answer :=
  fpCompare FloatFormat.single 11#4 fs ft s

/-- C.NGL.D (R426). -/
def execCNglD (fs ft : Reg) (s : State) : Answer :=
  fpCompare FloatFormat.double 11#4 fs ft s

/-- C.LT.S (R427). -/
def execCLtS (fs ft : Reg) (s : State) : Answer :=
  fpCompare FloatFormat.single 12#4 fs ft s

/-- C.LT.D (R427). -/
def execCLtD (fs ft : Reg) (s : State) : Answer :=
  fpCompare FloatFormat.double 12#4 fs ft s

/-- C.NGE.S (R428). -/
def execCNgeS (fs ft : Reg) (s : State) : Answer :=
  fpCompare FloatFormat.single 13#4 fs ft s

/-- C.NGE.D (R428). -/
def execCNgeD (fs ft : Reg) (s : State) : Answer :=
  fpCompare FloatFormat.double 13#4 fs ft s

/-- C.LE.S (R429). -/
def execCLeS (fs ft : Reg) (s : State) : Answer :=
  fpCompare FloatFormat.single 14#4 fs ft s

/-- C.LE.D (R429). -/
def execCLeD (fs ft : Reg) (s : State) : Answer :=
  fpCompare FloatFormat.double 14#4 fs ft s

/-- C.NGT.S (R430). -/
def execCNgtS (fs ft : Reg) (s : State) : Answer :=
  fpCompare FloatFormat.single 15#4 fs ft s

/-- C.NGT.D (R430). -/
def execCNgtD (fs ft : Reg) (s : State) : Answer :=
  fpCompare FloatFormat.double 15#4 fs ft s

/-- `FpUnimplementedFormat` (R433). -/
def execFpUnimplementedFormat (s : State) : Answer := gateCop1 s (fpUnimplemented s)

end Sys2Proof.Machine
end

