-- ==== Sys2Proof/Machine/LoadStore.lean ====
section
/-! DEFINITION. Loads and stores (R340 to R370). -/

namespace Sys2Proof.Machine

/-- An ordinary load of `n` bytes that ends in `k` (R341): address, alignment, access. -/
def loadAligned (n : Nat) (base : Reg) (offset : Half) (s : State)
    (k : Dword → Dword → State → Answer) : Answer :=
  withAddress n .addressErrorLoad base offset s fun va => loadThen s (trunc32 va) n (k va)

/-- An ordinary store of the low `n` bytes of `v` (R341). -/
def storeAligned (n : Nat) (v : Dword) (base : Reg) (offset : Half) (s : State) : Answer :=
  withAddress n .addressErrorStore base offset s fun va => storeThen s s (trunc32 va) n v complete

/-- The low `b` bits of a value. -/
def lowMask (w b : Nat) : BitVec w := BitVec.ofNat w (2 ^ b - 1)

/-- LWL and LDL (R369): `m` the aligned datum of `w` bits, `r` the register's, `n` the remainder. -/
def mergeLoadLeft {w : Nat} (m r : BitVec w) (n : Nat) : BitVec w := (m <<< (8 * n)) ||| (r &&& lowMask w (8 * n))

/-- LWR and LDR (R369): `last` is 3 for a word, 7 for a doubleword. -/
def mergeLoadRight {w : Nat} (m r : BitVec w) (last n : Nat) : BitVec w :=
  (m >>> (8 * (last - n))) ||| (r &&& ~~~(lowMask w (8 * (n + 1))))

/-- SWL and SDL (R369): what the aligned datum becomes. -/
def mergeStoreLeft {w : Nat} (m r : BitVec w) (last n : Nat) : BitVec w :=
  (m &&& ~~~(lowMask w (8 * (last + 1 - n)))) ||| (r >>> (8 * n))

/-- SWR and SDR (R369): what the aligned datum becomes. -/
def mergeStoreRight {w : Nat} (m r : BitVec w) (last n : Nat) : BitVec w :=
  (r <<< (8 * (last - n))) ||| (m &&& lowMask w (8 * (last - n)))

/-- `va[1:0]`. -/
def wordRemainder (va : Dword) : Nat := va.toNat % 4

/-- `va[2:0]`. -/
def dwordRemainder (va : Dword) : Nat := va.toNat % 8

/-- The aligned word that contains `va`. -/
def wordBase (va : Dword) : Word := trunc32 va &&& 0xFFFFFFFC#32

/-- The aligned doubleword that contains `va`. -/
def dwordBase (va : Dword) : Word := trunc32 va &&& 0xFFFFFFF8#32

/-- The sequence of an unaligned word load (R349, R350): no alignment check, the whole aligned word is read. -/
def loadMergedWord (merge : Word → Word → Nat → Word) (rt base : Reg) (offset : Half) (s : State) : Answer :=
  withOp64 s fun wide =>
    let va := effectiveAddress wide (s.readReg base) offset
    loadThen s (wordBase va) 4 fun m t =>
      complete (t.writeReg32 rt (merge (trunc32 m) (s.readWord rt) (wordRemainder va)))

/-- The sequence of an unaligned doubleword load (R351, R352). -/
def loadMergedDword (merge : Dword → Dword → Nat → Dword) (rt base : Reg) (offset : Half) (s : State) : Answer :=
  withOp64 s fun wide =>
    let va := effectiveAddress wide (s.readReg base) offset
    loadThen s (dwordBase va) 8 fun m t =>
      complete (t.writeReg rt (merge m (s.readReg rt) (dwordRemainder va)))

/-- The sequence of an unaligned word store (R357, R358): the aligned word is read, merged and written. -/
def storeMergedWord (merge : Word → Word → Nat → Word) (rt base : Reg) (offset : Half) (s : State) : Answer :=
  withOp64 s fun wide =>
    let va := effectiveAddress wide (s.readReg base) offset
    readThen true s (wordBase va) 4 fun m t =>
      storeThen s t (wordBase va) 4 (zext64 (merge (trunc32 m) (s.readWord rt) (wordRemainder va))) complete

/-- The sequence of an unaligned doubleword store (R359, R360). -/
def storeMergedDword (merge : Dword → Dword → Nat → Dword) (rt base : Reg) (offset : Half) (s : State) : Answer :=
  withOp64 s fun wide =>
    let va := effectiveAddress wide (s.readReg base) offset
    readThen true s (dwordBase va) 8 fun m t =>
      storeThen s t (dwordBase va) 8 (merge m (s.readReg rt) (dwordRemainder va)) complete

/-- The LLbit and LLAddr writes of LL and LLD (R361, R362): bits 31:4 of the translated address. -/
def State.setLink (s : State) (a : Word) : State :=
  { s with
    llBit := true
    cop0 := { s.cop0 with
      llAddr := match translateAddr s.cfg a with
        | some pa => pa >>> 4
        | none => s.cop0.llAddr } }

/-- SC and SCD (R363, R364): the store is made only while LLbit is set; the success flag is written either way. -/
def storeConditional (n : Nat) (v : Dword) (rt base : Reg) (offset : Half) (s : State) : Answer :=
  withAddress n .addressErrorStore base offset s fun va =>
    if s.llBit then storeThen s s (trunc32 va) n v fun t => complete (t.writeReg rt 1)
    else complete (s.writeReg rt 0)

/-- LB (R342). -/
def execLb (rt base : Reg) (offset : Half) (s : State) : Answer :=
  loadAligned 1 base offset s fun _ v t => complete (t.writeReg rt (sext64 (v.setWidth 8)))

/-- LBU (R343). -/
def execLbu (rt base : Reg) (offset : Half) (s : State) : Answer :=
  loadAligned 1 base offset s fun _ v t => complete (t.writeReg rt (zext64 (v.setWidth 8)))

/-- LH (R344). -/
def execLh (rt base : Reg) (offset : Half) (s : State) : Answer :=
  loadAligned 2 base offset s fun _ v t => complete (t.writeReg rt (sext64 (v.setWidth 16)))

/-- LHU (R345). -/
def execLhu (rt base : Reg) (offset : Half) (s : State) : Answer :=
  loadAligned 2 base offset s fun _ v t => complete (t.writeReg rt (zext64 (v.setWidth 16)))

/-- LW (R346). -/
def execLw (rt base : Reg) (offset : Half) (s : State) : Answer :=
  loadAligned 4 base offset s fun _ v t => complete (t.writeReg32 rt (trunc32 v))

/-- LWU (R347). -/
def execLwu (rt base : Reg) (offset : Half) (s : State) : Answer :=
  gate64 s (loadAligned 4 base offset s fun _ v t => complete (t.writeReg rt (zext64 (trunc32 v))))

/-- LD (R348). -/
def execLd (rt base : Reg) (offset : Half) (s : State) : Answer :=
  gate64 s (loadAligned 8 base offset s fun _ v t => complete (t.writeReg rt v))

/-- LWL (R349). -/
def execLwl (rt base : Reg) (offset : Half) (s : State) : Answer :=
  loadMergedWord mergeLoadLeft rt base offset s

/-- LWR (R350). -/
def execLwr (rt base : Reg) (offset : Half) (s : State) : Answer :=
  loadMergedWord (fun m r n => mergeLoadRight m r 3 n) rt base offset s

/-- LDL (R351). -/
def execLdl (rt base : Reg) (offset : Half) (s : State) : Answer :=
  gate64 s (loadMergedDword mergeLoadLeft rt base offset s)

/-- LDR (R352). -/
def execLdr (rt base : Reg) (offset : Half) (s : State) : Answer :=
  gate64 s (loadMergedDword (fun m r n => mergeLoadRight m r 7 n) rt base offset s)

/-- SB (R353). -/
def execSb (rt base : Reg) (offset : Half) (s : State) : Answer :=
  storeAligned 1 (s.readReg rt) base offset s

/-- SH (R354). -/
def execSh (rt base : Reg) (offset : Half) (s : State) : Answer :=
  storeAligned 2 (s.readReg rt) base offset s

/-- SW (R355). -/
def execSw (rt base : Reg) (offset : Half) (s : State) : Answer :=
  storeAligned 4 (s.readReg rt) base offset s

/-- SD (R356). -/
def execSd (rt base : Reg) (offset : Half) (s : State) : Answer :=
  gate64 s (storeAligned 8 (s.readReg rt) base offset s)

/-- SWL (R357). -/
def execSwl (rt base : Reg) (offset : Half) (s : State) : Answer :=
  storeMergedWord (fun m r n => mergeStoreLeft m r 3 n) rt base offset s

/-- SWR (R358). -/
def execSwr (rt base : Reg) (offset : Half) (s : State) : Answer :=
  storeMergedWord (fun m r n => mergeStoreRight m r 3 n) rt base offset s

/-- SDL (R359). -/
def execSdl (rt base : Reg) (offset : Half) (s : State) : Answer :=
  gate64 s (storeMergedDword (fun m r n => mergeStoreLeft m r 7 n) rt base offset s)

/-- SDR (R360). -/
def execSdr (rt base : Reg) (offset : Half) (s : State) : Answer :=
  gate64 s (storeMergedDword (fun m r n => mergeStoreRight m r 7 n) rt base offset s)

/-- LL (R361). -/
def execLl (rt base : Reg) (offset : Half) (s : State) : Answer :=
  loadAligned 4 base offset s fun va v t => complete ((t.writeReg32 rt (trunc32 v)).setLink (trunc32 va))

/-- LLD (R362). -/
def execLld (rt base : Reg) (offset : Half) (s : State) : Answer :=
  gate64 s (loadAligned 8 base offset s fun va v t => complete ((t.writeReg rt v).setLink (trunc32 va)))

/-- SC (R363). -/
def execSc (rt base : Reg) (offset : Half) (s : State) : Answer :=
  storeConditional 4 (s.readReg rt) rt base offset s

/-- SCD (R364). -/
def execScd (rt base : Reg) (offset : Half) (s : State) : Answer :=
  gate64 s (storeConditional 8 (s.readReg rt) rt base offset s)

/-- LWC1 (R365). -/
def execLwc1 (ft base : Reg) (offset : Half) (s : State) : Answer :=
  gateCop1 s (loadAligned 4 base offset s fun _ v t => complete (t.writeFW ft (trunc32 v)))

/-- LDC1 (R366). -/
def execLdc1 (ft base : Reg) (offset : Half) (s : State) : Answer :=
  gateCop1 s (loadAligned 8 base offset s fun _ v t => gateDouble t ft (complete (t.writeFD ft v)))

/-- SWC1 (R367). -/
def execSwc1 (ft base : Reg) (offset : Half) (s : State) : Answer :=
  gateCop1 s (storeAligned 4 (zext64 (s.readFW ft)) base offset s)

/-- SDC1 (R368). -/
def execSdc1 (ft base : Reg) (offset : Half) (s : State) : Answer :=
  gateCop1 s (withAddress 8 .addressErrorStore base offset s fun va =>
    gateDouble s ft (storeThen s s (trunc32 va) 8 (s.readFD ft) complete))

end Sys2Proof.Machine
end

