-- ==== Sys2Proof/Machine/MulDiv.lean ====
section
/-! DEFINITION. Integer multiply and divide (R210 to R220). -/

namespace Sys2Proof.Machine

/-- `HI` and `LO` take 32-bit values sign-extended (R219). -/
def finishHiLo32 (hi lo : Word) (s : State) : Answer := complete (s.writeHiLo (sext64 hi) (sext64 lo))

/-- `HI` and `LO` take 64-bit values. -/
def finishHiLo64 (hi lo : Dword) (s : State) : Answer := complete (s.writeHiLo hi lo)

/-- The quotient of a signed divide: truncated toward zero and kept to the width; for a zero divisor 1 when the dividend
is negative, else all ones (R210, R212, R218, R220). -/
def signedQuotient {n : Nat} (a b : BitVec n) : BitVec n :=
  if b = 0 then (if a.toInt < 0 then 1 else BitVec.allOnes n) else BitVec.ofInt n (a.toInt.tdiv b.toInt)

/-- The remainder of a signed divide; the dividend for a zero divisor (R210, R212, R218, R220). -/
def signedRemainder {n : Nat} (a b : BitVec n) : BitVec n :=
  if b = 0 then a else BitVec.ofInt n (a.toInt - a.toInt.tdiv b.toInt * b.toInt)

/-- The quotient of an unsigned divide; all ones for a zero divisor (R211, R213, R220). -/
def unsignedQuotient {n : Nat} (a b : BitVec n) : BitVec n :=
  if b = 0 then BitVec.allOnes n else BitVec.ofNat n (a.toNat / b.toNat)

/-- The remainder of an unsigned divide; the dividend for a zero divisor (R211, R213, R220). -/
def unsignedRemainder {n : Nat} (a b : BitVec n) : BitVec n :=
  if b = 0 then a else BitVec.ofNat n (a.toNat % b.toNat)

/-- The exact signed product of two `n`-bit values in `2n` bits (R214, R216). -/
def signedProduct {n : Nat} (a b : BitVec n) : BitVec (2 * n) := BitVec.ofInt (2 * n) (a.toInt * b.toInt)

/-- The exact unsigned product of two `n`-bit values in `2n` bits (R215, R217). -/
def unsignedProduct {n : Nat} (a b : BitVec n) : BitVec (2 * n) := BitVec.ofNat (2 * n) (a.toNat * b.toNat)

/-- The upper half of a product, for `HI`. -/
def upperProduct {n : Nat} (p : BitVec (2 * n)) : BitVec n := p.extractLsb' n n

/-- The lower half of a product, for `LO`. -/
def lowerProduct {n : Nat} (p : BitVec (2 * n)) : BitVec n := p.extractLsb' 0 n

/-- DIV (R210). -/
def execDiv (rs rt : Reg) (s : State) : Answer :=
  finishHiLo32 (signedRemainder (s.readWord rs) (s.readWord rt)) (signedQuotient (s.readWord rs) (s.readWord rt)) s

/-- DIVU (R211). -/
def execDivu (rs rt : Reg) (s : State) : Answer :=
  finishHiLo32 (unsignedRemainder (s.readWord rs) (s.readWord rt))
    (unsignedQuotient (s.readWord rs) (s.readWord rt)) s

/-- DDIV (R212). -/
def execDdiv (rs rt : Reg) (s : State) : Answer :=
  gate64 s (finishHiLo64 (signedRemainder (s.readReg rs) (s.readReg rt))
    (signedQuotient (s.readReg rs) (s.readReg rt)) s)

/-- DDIVU (R213). -/
def execDdivu (rs rt : Reg) (s : State) : Answer :=
  gate64 s (finishHiLo64 (unsignedRemainder (s.readReg rs) (s.readReg rt))
    (unsignedQuotient (s.readReg rs) (s.readReg rt)) s)

/-- MULT (R214). -/
def execMult (rs rt : Reg) (s : State) : Answer :=
  let p := signedProduct (s.readWord rs) (s.readWord rt)
  finishHiLo32 (upperProduct p) (lowerProduct p) s

/-- MULTU (R215). -/
def execMultu (rs rt : Reg) (s : State) : Answer :=
  let p := unsignedProduct (s.readWord rs) (s.readWord rt)
  finishHiLo32 (upperProduct p) (lowerProduct p) s

/-- DMULT (R216). -/
def execDmult (rs rt : Reg) (s : State) : Answer :=
  let p := signedProduct (s.readReg rs) (s.readReg rt)
  gate64 s (finishHiLo64 (upperProduct p) (lowerProduct p) s)

/-- DMULTU (R217). -/
def execDmultu (rs rt : Reg) (s : State) : Answer :=
  let p := unsignedProduct (s.readReg rs) (s.readReg rt)
  gate64 s (finishHiLo64 (upperProduct p) (lowerProduct p) s)

end Sys2Proof.Machine
end

