-- ==== Sys2Proof/Machine/ShiftLogic.lean ====
section
/-! DEFINITION. Shifts, set-on-less-than, bitwise logic and LUI (R230 to R259). -/

namespace Sys2Proof.Machine

/-- A shift with a 32-bit result, written sign-extended (R259). -/
def finishWord (r : Reg) (v : Word) (s : State) : Answer := complete (s.writeReg32 r v)

/-- An operation with a 64-bit result. -/
def finishDword (r : Reg) (v : Dword) (s : State) : Answer := complete (s.writeReg r v)

/-- The operands of a set-on-less-than compared as signed values of the operating width (R258). -/
def signedLess (wide : Bool) (a b : Dword) : Bool :=
  if wide then decide (a.toInt < b.toInt) else decide ((trunc32 a).toInt < (trunc32 b).toInt)

/-- The operands of a set-on-less-than compared as unsigned values of the operating width (R258). -/
def unsignedLess (wide : Bool) (a b : Dword) : Bool :=
  if wide then decide (a.toNat < b.toNat) else decide ((trunc32 a).toNat < (trunc32 b).toNat)

/-- The 64-bit value 1 or 0 (R258). -/
def boolValue (b : Bool) : Dword := if b then 1 else 0

/-- SLL (R230). -/
def execSll (rd rt : Reg) (sa : BitVec 5) (s : State) : Answer := finishWord rd (s.readWord rt <<< sa.toNat) s

/-- SRL (R231). -/
def execSrl (rd rt : Reg) (sa : BitVec 5) (s : State) : Answer := finishWord rd (s.readWord rt >>> sa.toNat) s

/-- SRA (R232). -/
def execSra (rd rt : Reg) (sa : BitVec 5) (s : State) : Answer :=
  finishWord rd ((s.readWord rt).sshiftRight sa.toNat) s

/-- SLLV (R233): an amount of 32 or more gives 0. -/
def execSllv (rd rt rs : Reg) (s : State) : Answer :=
  finishWord rd (s.readWord rt <<< shiftAmount32 s.cfg.vshift32 (s.readReg rs)) s

/-- SRLV (R234): an amount of 32 or more gives 0. -/
def execSrlv (rd rt rs : Reg) (s : State) : Answer :=
  finishWord rd (s.readWord rt >>> shiftAmount32 s.cfg.vshift32 (s.readReg rs)) s

/-- SRAV (R235): an amount of 31 or more gives 32 copies of the sign bit. -/
def execSrav (rd rt rs : Reg) (s : State) : Answer :=
  finishWord rd ((s.readWord rt).sshiftRight (shiftAmount32 s.cfg.vshift32 (s.readReg rs))) s

/-- DSLL (R236). -/
def execDsll (rd rt : Reg) (sa : BitVec 5) (s : State) : Answer :=
  gate64 s (finishDword rd (s.readReg rt <<< sa.toNat) s)

/-- DSRL (R237). -/
def execDsrl (rd rt : Reg) (sa : BitVec 5) (s : State) : Answer :=
  gate64 s (finishDword rd (s.readReg rt >>> sa.toNat) s)

/-- DSRA (R238). -/
def execDsra (rd rt : Reg) (sa : BitVec 5) (s : State) : Answer :=
  gate64 s (finishDword rd ((s.readReg rt).sshiftRight sa.toNat) s)

/-- DSLLV (R239). -/
def execDsllv (rd rt rs : Reg) (s : State) : Answer :=
  gate64 s (finishDword rd (s.readReg rt <<< shiftAmount64 (s.readReg rs)) s)

/-- DSRLV (R240). -/
def execDsrlv (rd rt rs : Reg) (s : State) : Answer :=
  gate64 s (finishDword rd (s.readReg rt >>> shiftAmount64 (s.readReg rs)) s)

/-- DSRAV (R241). -/
def execDsrav (rd rt rs : Reg) (s : State) : Answer :=
  gate64 s (finishDword rd ((s.readReg rt).sshiftRight (shiftAmount64 (s.readReg rs))) s)

/-- DSLL32 (R242). -/
def execDsll32 (rd rt : Reg) (sa : BitVec 5) (s : State) : Answer :=
  gate64 s (finishDword rd (s.readReg rt <<< (sa.toNat + 32)) s)

/-- DSRL32 (R243). -/
def execDsrl32 (rd rt : Reg) (sa : BitVec 5) (s : State) : Answer :=
  gate64 s (finishDword rd (s.readReg rt >>> (sa.toNat + 32)) s)

/-- DSRA32 (R244). -/
def execDsra32 (rd rt : Reg) (sa : BitVec 5) (s : State) : Answer :=
  gate64 s (finishDword rd ((s.readReg rt).sshiftRight (sa.toNat + 32)) s)

/-- SLT (R245). -/
def execSlt (rd rs rt : Reg) (s : State) : Answer :=
  withOp64 s fun wide => finishDword rd (boolValue (signedLess wide (s.readReg rs) (s.readReg rt))) s

/-- SLTU (R246). -/
def execSltu (rd rs rt : Reg) (s : State) : Answer :=
  withOp64 s fun wide => finishDword rd (boolValue (unsignedLess wide (s.readReg rs) (s.readReg rt))) s

/-- SLTI (R247). -/
def execSlti (rt rs : Reg) (imm : Half) (s : State) : Answer :=
  withOp64 s fun wide =>
    finishDword rt (boolValue (signedLess wide (s.readReg rs) (sltImmediate s.cfg.sltImm imm))) s

/-- SLTIU (R248). -/
def execSltiu (rt rs : Reg) (imm : Half) (s : State) : Answer :=
  withOp64 s fun wide =>
    finishDword rt (boolValue (unsignedLess wide (s.readReg rs) (sltImmediate s.cfg.sltImm imm))) s

/-- AND (R249). -/
def execAnd (rd rs rt : Reg) (s : State) : Answer := finishDword rd (s.readReg rs &&& s.readReg rt) s

/-- OR (R250). -/
def execOr (rd rs rt : Reg) (s : State) : Answer := finishDword rd (s.readReg rs ||| s.readReg rt) s

/-- XOR (R251). -/
def execXor (rd rs rt : Reg) (s : State) : Answer := finishDword rd (s.readReg rs ^^^ s.readReg rt) s

/-- NOR (R252). -/
def execNor (rd rs rt : Reg) (s : State) : Answer := finishDword rd (~~~(s.readReg rs ||| s.readReg rt)) s

/-- ANDI (R253). -/
def execAndi (rt rs : Reg) (imm : Half) (s : State) : Answer := finishDword rt (s.readReg rs &&& zext64 imm) s

/-- ORI (R254). -/
def execOri (rt rs : Reg) (imm : Half) (s : State) : Answer := finishDword rt (s.readReg rs ||| zext64 imm) s

/-- XORI (R255). -/
def execXori (rt rs : Reg) (imm : Half) (s : State) : Answer := finishDword rt (s.readReg rs ^^^ zext64 imm) s

/-- LUI (R256). -/
def execLui (rt : Reg) (imm : Half) (s : State) : Answer := finishWord rt (imm ++ 0#16) s

end Sys2Proof.Machine
end

