-- ==== Sys2Proof/Machine/System.lean ====
section
/-! DEFINITION. Exception return, system calls, traps, SYNC, CACHE, the TLB instructions, Cop2 and Reserved (R450 to
R472). -/

namespace Sys2Proof.Machine

/-- ERET (R450): it moves `pc` itself and has no delay slot. -/
def execEret (s : State) : Answer := gateCop0 s (outsideDelaySlot s (.next s.returnFromException))

/-- SYSCALL (R451): the code field is ignored. -/
def execSyscall (_code : Nat) (s : State) : Answer := raise .syscall s

/-- BREAK (R452): the code field is ignored. -/
def execBrk (_code : Nat) (s : State) : Answer := raise .breakpoint s

/-- A conditional trap (R459 to R470): `Trap` when the condition holds, else nothing. -/
def trapWhen (c : Bool) (s : State) : Answer := if c then raise .trap s else complete s

/-- `signed_64(a) < signed_64(b)`. -/
def signedLess64 (a b : Dword) : Bool := decide (a.toInt < b.toInt)

/-- `unsigned_64(a) < unsigned_64(b)`. -/
def unsignedLess64 (a b : Dword) : Bool := decide (a.toNat < b.toNat)

/-- TGE (R459). -/
def execTge (rs rt : Reg) (_code : Nat) (s : State) : Answer := trapWhen (!signedLess64 (s.readReg rs) (s.readReg rt)) s

/-- TGEU (R460). -/
def execTgeu (rs rt : Reg) (_code : Nat) (s : State) : Answer :=
  trapWhen (!unsignedLess64 (s.readReg rs) (s.readReg rt)) s

/-- TLT (R461). -/
def execTlt (rs rt : Reg) (_code : Nat) (s : State) : Answer := trapWhen (signedLess64 (s.readReg rs) (s.readReg rt)) s

/-- TLTU (R462). -/
def execTltu (rs rt : Reg) (_code : Nat) (s : State) : Answer :=
  trapWhen (unsignedLess64 (s.readReg rs) (s.readReg rt)) s

/-- TEQ (R463). -/
def execTeq (rs rt : Reg) (_code : Nat) (s : State) : Answer := trapWhen (decide (s.readReg rs = s.readReg rt)) s

/-- TNE (R464). -/
def execTne (rs rt : Reg) (_code : Nat) (s : State) : Answer := trapWhen (decide (s.readReg rs ≠ s.readReg rt)) s

/-- TGEI (R465). -/
def execTgei (rs : Reg) (imm : Half) (s : State) : Answer := trapWhen (!signedLess64 (s.readReg rs) (sext64 imm)) s

/-- TGEIU (R466). -/
def execTgeiu (rs : Reg) (imm : Half) (s : State) : Answer := trapWhen (!unsignedLess64 (s.readReg rs) (sext64 imm)) s

/-- TLTI (R467). -/
def execTlti (rs : Reg) (imm : Half) (s : State) : Answer := trapWhen (signedLess64 (s.readReg rs) (sext64 imm)) s

/-- TLTIU (R468). -/
def execTltiu (rs : Reg) (imm : Half) (s : State) : Answer := trapWhen (unsignedLess64 (s.readReg rs) (sext64 imm)) s

/-- TEQI (R469). -/
def execTeqi (rs : Reg) (imm : Half) (s : State) : Answer := trapWhen (decide (s.readReg rs = sext64 imm)) s

/-- TNEI (R470). -/
def execTnei (rs : Reg) (imm : Half) (s : State) : Answer := trapWhen (decide (s.readReg rs ≠ sext64 imm)) s

/-- SYNC (R453): there is nothing to order. -/
def execSync (s : State) : Answer := complete s

/-- CACHE (R454): there is no cache; the address is not formed. -/
def execCache (_op : Nat) (_base : Reg) (_offset : Half) (s : State) : Answer := gateCop0 s (complete s)

/-- The TLB instructions beyond their gate (R173, R455 to R458): the TLB is outside the block. -/
def outsideBlockTlb (s : State) : Answer := gateCop0 s (.refused .tlbOutsideBlock)

/-- TLBR (R455). -/
def execTlbr (s : State) : Answer := outsideBlockTlb s

/-- TLBWI (R456). -/
def execTlbwi (s : State) : Answer := outsideBlockTlb s

/-- TLBWR (R457). -/
def execTlbwr (s : State) : Answer := outsideBlockTlb s

/-- TLBP (R458). -/
def execTlbp (s : State) : Answer := outsideBlockTlb s

/-- `Cop2` (R471). -/
def execCop2 (s : State) : Answer :=
  if s.cu2 then raise .reservedInstruction s else raise (.coprocessorUnusable 2) s

/-- `Reserved` (R472): before any other check. -/
def execReserved (s : State) : Answer := raise .reservedInstruction s

end Sys2Proof.Machine
end

