-- ==== Sys2Proof/Machine/Transfer.lean ====
section
/-! DEFINITION. Register transfers (R270 to R291). -/

namespace Sys2Proof.Machine

/-- MFHI (R271). -/
def execMfhi (rd : Reg) (s : State) : Answer := complete (s.writeReg rd s.hi)

/-- MTHI (R272). -/
def execMthi (rs : Reg) (s : State) : Answer := complete { s with hi := s.readReg rs }

/-- MFLO (R273). -/
def execMflo (rd : Reg) (s : State) : Answer := complete (s.writeReg rd s.lo)

/-- MTLO (R274). -/
def execMtlo (rs : Reg) (s : State) : Answer := complete { s with lo := s.readReg rs }

/-- MFC0 (R275). -/
def execMfc0 (rt rd : Reg) (s : State) : Answer :=
  gateCop0 s (complete ((s.readC0 rd).2.writeReg32 rt (trunc32 (s.readC0 rd).1)))

/-- MTC0 (R276). -/
def execMtc0 (rt rd : Reg) (s : State) : Answer :=
  gateCop0 s (complete (s.writeC0 rd (sext64 (s.readWord rt))))

/-- DMFC0 (R277). -/
def execDmfc0 (rt rd : Reg) (s : State) : Answer :=
  gate64 s (gateCop0 s (complete ((s.readC0 rd).2.writeReg rt (s.readC0 rd).1)))

/-- DMTC0 (R278). -/
def execDmtc0 (rt rd : Reg) (s : State) : Answer :=
  gate64 s (gateCop0 s (complete (s.writeC0 rd (s.readReg rt))))

/-- MFC1 (R279). -/
def execMfc1 (rt fs : Reg) (s : State) : Answer := gateCop1 s (complete (s.writeReg32 rt (s.readFW fs)))

/-- MTC1 (R280). -/
def execMtc1 (rt fs : Reg) (s : State) : Answer := gateCop1 s (complete (s.writeFW fs (s.readWord rt)))

/-- DMFC1 (R281). -/
def execDmfc1 (rt fs : Reg) (s : State) : Answer :=
  gate64 s (gateCop1 s (gateDouble s fs (complete (s.writeReg rt (s.readFD fs)))))

/-- DMTC1 (R282). -/
def execDmtc1 (rt fs : Reg) (s : State) : Answer :=
  gate64 s (gateCop1 s (gateDouble s fs (complete (s.writeFD fs (s.readReg rt)))))

/-- CFC1 (R283). -/
def execCfc1 (rt fs : Reg) (s : State) : Answer :=
  gateCop1 s (complete ((s.readFCR fs).2.writeReg rt (s.readFCR fs).1))

/-- CTC1 (R284). -/
def execCtc1 (rt fs : Reg) (s : State) : Answer := gateCop1 s (complete (s.writeFCR fs (s.readWord rt)))

end Sys2Proof.Machine
end

