-- ==== Sys2Proof/Machine/Sequencer.lean ====
section
/-! DEFINITION. The tick of the arbiter (R489 to R497), fetching (R98, R163), running what was decoded (R164), and the
phases of a Step (R160 to R168). -/

namespace Sys2Proof.Machine

/-- Count, advanced, reaches a Compare that is not zero (R490). -/
def State.timerMatches (s : State) : Bool :=
  decide (s.cop0.compare ≠ 0 ∧ s.cop0.count + 1 = s.cop0.compare)

/-- The timer (R490): Count advances; on a match with a Compare that is not zero it restarts and the timer interrupt
becomes pending. -/
def State.timer (s : State) : State :=
  { s with cop0 := { s.cop0 with
      count := if s.timerMatches then 0 else s.cop0.count + 1
      cause := if s.timerMatches then setBit s.cop0.cause 15 true else s.cop0.cause } }

/-- `ExtLine` (R43). -/
def Inputs.extLine (i : Inputs) : Bool := decide (i.extIntr &&& i.extMask ≠ 0)

/-- Sampling the inputs (R491). -/
def State.sampleInputs (s : State) : State :=
  { s with
    cop0 := { s.cop0 with
      cause := setBit (setBit s.cop0.cause 10 s.inputs.extLine) 12 s.inputs.resetButton }
    pending := { s.pending with nmi := s.pending.nmi || s.inputs.nmiReq } }

/-- `InterruptCondition` (R497); EXL or ERL decides it alone (R542). -/
def State.interruptCondition (s : State) : Bool :=
  !s.exl && !s.erl && s.ie && decide (s.ip &&& s.im ≠ 0)

/-- The choice of at most one event, in the order of R495. -/
def State.chooseEvent (s : State) : Option Event :=
  if s.pending.nmi then some .nmi
  else if s.pending.xtlb then some (.xtlbRefill s.pending.xtlbStore)
  else if s.pending.cacheErr then some .cacheError
  else match s.pending.sync with
    | some e => some (.sync e)
    | none => if s.interruptCondition then some .interrupt else none

/-- Phase A, the tick with its redirect (R161, R489). -/
def State.tick (s : State) : State :=
  let t := s.timer.sampleInputs
  match t.chooseEvent with
  | some ev => t.takeException ev
  | none => t

/-- Phase B, a nullified slot (R162): nothing is fetched and Inject is left as it is. -/
def State.skipSlot (s : State) : State := { s with bu := { s.bu with nullifyNext := false }, pc := s.pc + 4 }

/-- `Fetch(pc)` (R98) and what runs on the word. -/
def fetchThen (s : State) (k : Word → State → Answer) : Answer :=
  if s.pc.extractLsb' 0 2 ≠ 0 then raise (.addressErrorLoad s.pc) s
  else match memRead s (trunc32 s.pc) 4 with
    | .ok v t => k (trunc32 v) t
    | .memFault => raise .busErrorFetch s
    | .refill kind => raiseRefill kind false s
    | .refused r => .refused r

/-- Phase D (R164): the instruction, or the pseudo-instruction, that was decoded. -/
def execDecoded (d : Decoded) (s : State) : Answer :=
  match d with
  | .instr i => exec i s
  | .reserved => execReserved s
  | .fpUnimplementedFormat => execFpUnimplementedFormat s
  | .cop2 => execCop2 s

/-- Phases B to E after the tick (R162 to R168). -/
def afterTick (s : State) : Answer :=
  if s.bu.nullifyNext then .next s.skipSlot
  else match s.inject with
    | some w => execDecoded (decode w) { s with inject := none }
    | none => fetchThen s fun w t => execDecoded (decode w) t

/-- The Step (R160). In a state whose mode has no value no Step is taken (U16). -/
def stepPhases (s : State) : Answer :=
  match s.mode? with
  | none => .fault .undefinedMode
  | some _ => afterTick s.tick

/-- The cell a fetch at address `a` finds the byte of `a` in, where there is one. -/
def State.codeCell (s : State) (a : Word) : Option Nat :=
  match translateAddr s.cfg a with
  | none => none
  | some pa =>
    match resolve s.map pa.toNat with
    | none => none
    | some (w, off) =>
      match w.device with
      | .ram store capacity => if off < capacity then some (store + off) else none
      | .storage store size => if off < size then some (store + off) else none
      | .rom store size => if off < size then some (store + off) else none
      | .peripheral _ => none
      | .placeholder _ => none

/-- Memory with the bytes placed at address `a` and on, as a host loads a program. -/
def State.placeBytes (s : State) : Word → List Byte → State
  | _, [] => s
  | a, b :: bs =>
    match s.codeCell a with
    | some k => { s with mem := Memory.write s.mem k b }.placeBytes (a + 1) bs
    | none => s.placeBytes (a + 1) bs

/-- The state with an instruction word stored where the next Step fetches, after the tick of that Step, and with the
fetch not replaced by an injected word or a nullified slot. -/
def State.placeWord (s : State) (w : Word) : State :=
  let t := s.placeBytes (trunc32 s.tick.pc) (bytesOfWord w)
  { t with inject := none, bu := { t.bu with nullifyNext := false } }

end Sys2Proof.Machine
end

