-- ==== Sys2Proof/Machine/Step.lean ====
section
/-! DEFINITION. The Step (R160), by its phases in Sequencer. -/

namespace Sys2Proof.Machine

/-- One Step of the machine. -/
def step (s : State) : Host.Outcome State Fault Refusal := stepPhases s

/-- The state with a word of the opcode table stored where the next Step fetches. -/
def State.withFetchWord (s : State) (nbits w : Nat) : State := s.placeWord (BitVec.ofNat 32 (w % 2 ^ nbits))

end Sys2Proof.Machine
end

