-- ==== Sys2Proof/Machine/HostActions.lean ====
section
/-! DEFINITION. What acts between two Steps (R5, R88, R105, R106, R174, R545): the bulk copy, the raw memory view, the
injected instruction, the interrupt inputs and the replacement of a device. None of it is part of a Step. -/

namespace Sys2Proof.Machine

/-- One granule of the bulk copy (R105): four bytes read through the router, then written, with no translation (R81). -/
def copyGranule (s : State) (src dst : Word) : Answer :=
  match routerRead s src 4 with
  | some (v, t) =>
    match routerWrite t dst 4 v with
    | some u => .next u
    | none => .refused .hostDeviceNotFound
  | none => .refused .hostDeviceNotFound

/-- `n` granules in ascending order (R105). -/
def copyGranules : Nat → Word → Word → State → Answer
  | 0, _, _, s => .next s
  | n + 1, src, dst, s =>
    match copyGranule s src dst with
    | .next t => copyGranules n (src + 4) (dst + 4) t
    | .fault f => .fault f
    | .refused r => .refused r

/-- `BulkCopy(src, dst, N)` (R105): refused when the length is not a multiple of 4, or when a granule finds no device
(R113, U19). -/
def bulkCopy (src dst : Word) (n : Nat) (s : State) : Answer :=
  if n % 4 = 0 then copyGranules (n / 4) src dst s else .refused .bulkCopyLength

/-- `RouterRead` of the raw view (R106): what a device at a router address returns. -/
def rawRead (s : State) (pa : Word) (n : Nat) : ReadResult Dword :=
  match routerRead s pa n with
  | some (v, t) => .ok v t
  | none => .refused .hostDeviceNotFound

/-- `RouterWrite` of the raw view (R106). -/
def rawWrite (s : State) (pa : Word) (n : Nat) (v : Dword) : Answer :=
  match routerWrite s pa n v with
  | some t => .next t
  | none => .refused .hostDeviceNotFound

/-- The host writes the one-shot injected instruction (R41). -/
def State.setInject (s : State) (w : Word) : State := { s with inject := some w }

/-- The platform drives the interrupt inputs (R43). -/
def State.driveInputs (s : State) (i : Inputs) : State := { s with inputs := i }

/-- The host replaces the device of the window at `base`; the window stays (R88). -/
def State.replaceDevice (s : State) (base : Nat) (d : Device) : State :=
  { s with map := s.map.map fun w => if w.base = base then { w with device := d } else w }

/-- A stub hook raises a TLB refill between two Steps (R484, R495): one of the synchronous exceptions, with whether the
access was a store (R480). That the information it supplies is that bit alone, and that BadVAddr, EntryHi, XContext and
Context (whose BadVPN2 R49 calls written by a TLB exception) are not written, is the model's choice, and so is that the
refill replaces a synchronous exception that is already pending, of which R482 lets there be one. (DESIGN CHOICE,
assumption 15.) -/
def State.requestTlb (s : State) (store : Bool) : State :=
  { s with pending := { s.pending with sync := some (.tlbRefill store), tlb := true } }

/-- An external fault requests a cache error (R484); no Step does. -/
def State.requestCacheError (s : State) : State := { s with pending := { s.pending with cacheErr := true } }

end Sys2Proof.Machine
end

