-- ==== Sys2Proof/Safety.lean ====
section
/-! DEFINITION. What counts as a safe run, and the invariant of the states a run goes through. -/

namespace Sys2Proof.Machine

/-- A run of `n` Steps from `s` stops nowhere: every Step answers a next state (R13 outcomes a and b). -/
def State.SafeFor : Nat → State → Prop
  | 0, _ => True
  | n + 1, s => ∃ t, step s = .next t ∧ State.SafeFor n t

/-- The branch unit is in one of the three states of R39. -/
def BranchUnit.legal (bu : BranchUnit) : Bool :=
  (!bu.takeBranch && !bu.branchDelayPending && !bu.unconditionalJump) ||
    (bu.takeBranch && bu.branchDelayPending && !bu.nullifyNext)

/-- The snapshot holds the Sequential or the PendingLikelyNullify state (R508). -/
def BranchUnit.legalSnapshot (bu : BranchUnit) : Bool :=
  !bu.takeBranch && !bu.branchDelayPending && !bu.unconditionalJump

/-- The bits of the coprocessor-0 registers that read zero are zero (R45 to R71). -/
def Cop0.reservedZero (c : Cop0) : Bool :=
  decide (c.index &&& ~~~0x8000003F#32 = 0) && decide (c.entryLo0 &&& ~~~0x0000000003FFFFFF#64 = 0) &&
  decide (c.entryLo1 &&& ~~~0x0000000003FFFFFF#64 = 0) && decide (c.context &&& 0xF#64 = 0) &&
  decide (c.pageMask &&& ~~~0x01FFE000#32 = 0) && decide (c.wired &&& ~~~0x3F#32 = 0) &&
  decide (c.entryHi &&& ~~~0xC00000FFFFFFE0FF#64 = 0) && decide (c.status &&& 0x00880000#32 = 0) &&
  decide (c.cause &&& ~~~0xB000977C#32 = 0) && decide (c.watchLo &&& 0x4#32 = 0) &&
  decide (c.watchHi &&& ~~~0xF#32 = 0) && decide (c.xContext &&& 0xF#64 = 0) &&
  decide (c.pErr &&& ~~~0xFF#32 = 0) && decide (c.tagLo &&& ~~~0x0FFFFFC0#32 = 0)

/-- The invariant of the states a run goes through: memory in canonical form (R85), a map of disjoint windows that fit
devices with bytes of their own (R83, R85, R87), the branch unit and the snapshot in their legal states (R39, R508),
reserved bits of the coprocessor-0 registers and of FCR31 zero (R35, R45 to R71), the fixed bits of Config (R62),
Random at its upper bound (R46, R74), no request bit of a TLB or of a cache error, and no XTLB request where no
`TlbStub` is supplied (R484). -/
structure State.Inv (s : State) : Prop where
  memory : s.mem.wf = true
  map : mapWf s.map = true
  branchUnit : s.bu.legal = true
  snapshot : s.snapshot.legalSnapshot = true
  reserved : s.cop0.reservedZero = true
  fcr31 : s.fcr31 &&& ~~~fcr31Mask = 0
  config : s.cop0.config &&& configFixedMask = configFixed
  random : s.cop0.random = 31
  noFaults : s.pending.tlb = false ∧ s.pending.cacheErr = false
  noStub : s.cfg.tlbStub = none → s.pending.xtlb = false

end Sys2Proof.Machine
end

