-- ==== Sys2Proof/Certificates/Slice0/Obligations.lean ====
section
/-! DEFINITION. The statements about the machine, each a rule of the spec in the machine's own terms. The first part
gives the words they share: what an instruction leaves unchanged is always said by one equation, which takes from the
new state only the fields the instruction may write. -/

namespace Sys2Proof.Machine

/-! ## How an instruction ends -/

/-- `t` is past the instruction of `s` (R168): at the branch target after a delay slot, else at the next word. -/
def Advanced (s t : State) : Prop :=
  (s.bu.branchDelayPending = false → t.pc = s.pc + 4 ∧ t.bu = s.bu) ∧
  (s.bu.branchDelayPending = true → t.pc = s.bu.targetAddress ∧
    t.bu = { s.bu with takeBranch := false, branchDelayPending := false, unconditionalJump := false })

/-- The instruction raises `e`, an exception that records no address (R167, R482): nothing else changes. -/
def Raises (i : Instr) (s : State) (e : Exc) : Prop :=
  exec i s = .next { s with pending := { s.pending with sync := some e } }

/-- The instruction raises `e` with the bad address `va` (R167, R482): nothing else changes. -/
def RaisesAt (i : Instr) (s : State) (e : Exc) (va : Dword) : Prop :=
  exec i s =
    .next { s with pending := { s.pending with sync := some e }, cop0 := { s.cop0 with badVAddr := va } }

/-- The instruction ends with the XTLB refill requested (R480, R484): nothing else changes. -/
def RequestsXtlb (i : Instr) (s : State) (store : Bool) : Prop :=
  exec i s = .next { s with pending := { s.pending with xtlb := true, xtlbStore := store } }

/-- The instruction reaches a doubleword view that does not exist (R32, U13). -/
def StopsOnOddView (i : Instr) (s : State) : Prop := exec i s = .fault .oddDoubleRegister

/-- The instruction completes and changes nothing but the place of execution. -/
def OnlyAdvances (i : Instr) (s : State) : Prop :=
  ∃ t, exec i s = .next t ∧ Advanced s t ∧ t = { s with pc := t.pc, bu := t.bu }

/-- General register `r` takes `v`, unless it is register 0; every other reads as before (R21). -/
def GprWritten (s t : State) (r : Reg) (v : Dword) : Prop :=
  ∀ q, t.readReg q = if q = r ∧ q ≠ 0 then v else s.readReg q

/-- The instruction completes with a value that satisfies `p` in register `r`, and changes nothing else. -/
def WritesGpr (i : Instr) (s : State) (r : Reg) (p : Dword → Prop) : Prop :=
  ∃ t v, exec i s = .next t ∧ Advanced s t ∧ p v ∧ GprWritten s t r v ∧
    t = { s with gpr := t.gpr, pc := t.pc, bu := t.bu }

/-- As `WritesGpr`, for a value that is drawn: the model's counter of free values advances too. -/
def WritesDrawnGpr (i : Instr) (s : State) (r : Reg) (p : Dword → Prop) : Prop :=
  ∃ t v, exec i s = .next t ∧ Advanced s t ∧ p v ∧ GprWritten s t r v ∧
    t = { s with gpr := t.gpr, pc := t.pc, bu := t.bu, draws := s.draws + 1 }

/-- The instruction completes with values of HI and LO that satisfy `p`, and changes nothing else. -/
def WritesHiLo (i : Instr) (s : State) (p : Dword → Dword → Prop) : Prop :=
  ∃ t, exec i s = .next t ∧ Advanced s t ∧ p t.hi t.lo ∧ t = { s with hi := t.hi, lo := t.lo, pc := t.pc, bu := t.bu }

/-- An `n`-bit signed operation with the exact result `x` (R203): the result where it fits, else Overflow. -/
def TrapsOnOverflow (n : Nat) (i : Instr) (s : State) (r : Reg) (x : Int) : Prop :=
  (-(2 ^ (n - 1)) ≤ x ∧ x ≤ 2 ^ (n - 1) - 1 → WritesGpr i s r fun v => v.toInt = x) ∧
  (x < -(2 ^ (n - 1)) ∨ 2 ^ (n - 1) - 1 < x → Raises i s .overflow)

/-- A conditional trap with condition `c` (R459 to R470). -/
def TrapsWhen (i : Instr) (s : State) (c : Prop) : Prop := (c → Raises i s .trap) ∧ (¬c → OnlyAdvances i s)

/-- Coprocessor 0 is usable (R73). -/
def Cop0Usable (s : State) : Prop := s.cu0 = true ∨ s.mode? = some .kernel

/-- The view of register `i` exists (R32): every word view, and a doubleword view that is not of an odd register while
FR = 0. -/
def ViewExists (s : State) (v : FpView) (i : Reg) : Prop := v = .dword → s.fr = true ∨ i.getLsbD 0 = false

/-! ## Branches -/

/-- A conditional branch with condition `c` (R329): it moves to its delay slot and sets the branch unit. The target is
relative to the branch, or to its delay slot, as `BRANCH_BASE_ADJ` says (R300). -/
def Branches (i : Instr) (s : State) (c : Prop) (likely link : Bool) (offset : Half) : Prop :=
  ∃ t, exec i s = .next t ∧ t.pc = s.pc + 4 ∧ t = { s with gpr := t.gpr, pc := t.pc, bu := t.bu } ∧
    (c → t.bu = { s.bu with
      takeBranch := true, branchDelayPending := true, unconditionalJump := false,
      targetAddress :=
        s.pc + (if s.cfg.branchBase = .ownAddress then 0 else 4) + BitVec.ofInt 64 (4 * offset.toInt) }) ∧
    (¬c → likely = true → t.bu = { s.bu with nullifyNext := true }) ∧
    (¬c → likely = false → t.bu = s.bu) ∧
    (link = true → GprWritten s t 31 (s.pc + 8)) ∧ (link = false → t.gpr = s.gpr)

/-- A jump to `target` (R322 to R325): it moves to its delay slot and sets the branch unit, with the return address in
`link` where there is one. -/
def JumpsTo (i : Instr) (s : State) (target : Dword) (link : Option Reg) : Prop :=
  ∃ t, exec i s = .next t ∧ t.pc = s.pc + 4 ∧ t = { s with gpr := t.gpr, pc := t.pc, bu := t.bu } ∧
    t.bu = { s.bu with
      takeBranch := true, branchDelayPending := true, unconditionalJump := true, targetAddress := target } ∧
    (∀ rd, link = some rd → GprWritten s t rd (s.pc + 8)) ∧ (link = none → t.gpr = s.gpr)

/-! ## Memory -/

/-- `n` bytes at address `va` lie in window `w` from offset `off` on (R80 to R84, R89). -/
def Reaches (s : State) (va : Dword) (n : Nat) (w : Window) (off : Nat) : Prop :=
  ∃ pa, translateAddr s.cfg (trunc32 va) = some pa ∧ resolve s.map pa.toNat = some (w, off) ∧
    off + n ≤ w.length

/-- No window holds the byte at `va`, or the access leaves its window (R84, R89). -/
def FindsNoDevice (s : State) (va : Dword) (n : Nat) : Prop :=
  ∃ pa, translateAddr s.cfg (trunc32 va) = some pa ∧
    ∀ w off, resolve s.map pa.toNat = some (w, off) → w.length < off + n

/-- What an access of `n` bytes at `va` does that does not reach a device: BusErrorData where none is found (R113);
where the address has no translation of the block, the refill that the `TlbStub` answers, with whether the access is a
store, or a refusal where no stub is supplied (R82, R484). -/
def FailsAt (i : Instr) (s : State) (va : Dword) (n : Nat) (store : Bool) : Prop :=
  (FindsNoDevice s va n → Raises i s .busErrorData) ∧
  (translate s.cfg (trunc32 va) = .outsideBlock → exec i s = .refused .translationOutsideBlock) ∧
  (translate s.cfg (trunc32 va) = .refill .tlb → Raises i s (.tlbRefill store)) ∧
  (translate s.cfg (trunc32 va) = .refill .xtlb → RequestsXtlb i s store)

/-- The alignment rule lets an access of `n` bytes at `va` through (R96, R97). -/
def AlignedFor (s : State) (va : Dword) (n : Nat) : Prop := s.cfg.misaligned = .perform ∨ va.toNat % n = 0

/-- What a load of `n` bytes from a window gives, and the machine after it: the bytes the device holds, the first most
significant, or a free value of `n` bytes where they are the device's own (R86, R90). -/
def loadedFrom (s : State) (w : Window) (off n : Nat) : Dword × State :=
  match deviceBytes w.device s.mem off n with
  | some bs => (bigEndianValue bs, s)
  | none => (lowBytes n (Config.freeValue s.draws), { s with draws := s.draws + 1 })

/-- Byte `j`, in address order, of an `n`-byte value (R90). -/
def byteOf (n : Nat) (v : Dword) (j : Nat) : Byte := (v >>> (8 * (n - 1 - j))).setWidth 8

/-- Memory after a store of the low `n` bytes of `v` at offset `off` of a device: every byte that the device takes holds
the stored byte, every other byte is as before. -/
def Stored (m m' : Memory) (d : Device) (off n : Nat) (v : Dword) : Prop :=
  (∀ j k, j < n → deviceCell d (off + j) = some k → Memory.read m' k = byteOf n v j) ∧
  (∀ k, (∀ j, j < n → deviceCell d (off + j) ≠ some k) → Memory.read m' k = Memory.read m k)

/-- Every address whose byte is not one of those stored reads as before. -/
def OtherBytesKept (s t : State) (d : Device) (off n : Nat) : Prop :=
  ∀ a, (∀ k, s.codeCell a = some k → ∀ j, j < n → deviceCell d (off + j) ≠ some k) → t.byteAt a = s.byteAt a

/-- The address of a load or store (R340). -/
def dataAddress (s : State) (wide : Bool) (base : Reg) (offset : Half) : Dword :=
  effectiveAddress wide (s.readReg base) offset

/-- An aligned load of `n` bytes completes with `f` of the loaded value in `rt`. -/
def LoadsGpr (i : Instr) (s : State) (n : Nat) (rt base : Reg) (offset : Half) (f : Dword → Dword) : Prop :=
  ∀ wide w off, s.op64? = some wide → AlignedFor s (dataAddress s wide base offset) n →
    Reaches s (dataAddress s wide base offset) n w off →
    ∃ t, exec i s = .next t ∧ Advanced s t ∧ GprWritten s t rt (f (loadedFrom s w off n).1) ∧
      t = { (loadedFrom s w off n).2 with gpr := t.gpr, pc := t.pc, bu := t.bu }

/-- An aligned store of the low `n` bytes of `v` completes and changes nothing but those bytes. -/
def StoresBytes (i : Instr) (s : State) (n : Nat) (v : Dword) (base : Reg) (offset : Half) : Prop :=
  ∀ wide w off, s.op64? = some wide → s.mem.wf = true → AlignedFor s (dataAddress s wide base offset) n →
    Reaches s (dataAddress s wide base offset) n w off →
    ∃ t, exec i s = .next t ∧ Advanced s t ∧ t = { s with mem := t.mem, pc := t.pc, bu := t.bu } ∧
      Stored s.mem t.mem w.device off n v ∧ OtherBytesKept s t w.device off n

/-- An unaligned load reads the aligned datum of `n` bytes that contains the address: byte `j` of the result is byte
`pick j` of memory, or byte `j` of the register where `pick j` is none. -/
def LoadsMerged (i : Instr) (s : State) (n : Nat) (rt base : Reg) (offset : Half) (pick : Nat → Nat → Option Nat) :
    Prop :=
  ∀ wide w off, s.op64? = some wide →
    Reaches s (dataAddress s wide base offset - BitVec.ofNat 64 ((dataAddress s wide base offset).toNat % n)) n w off →
    ∃ t v, exec i s = .next t ∧ Advanced s t ∧ GprWritten s t rt v ∧
      (n = 4 → v = sext64 (trunc32 v)) ∧
      (∀ j, j < n → byteOf n v j =
        match pick ((dataAddress s wide base offset).toNat % n) j with
        | some m => byteOf n (loadedFrom s w off n).1 m
        | none => byteOf n (s.readReg rt) j) ∧
      t = { (loadedFrom s w off n).2 with gpr := t.gpr, pc := t.pc, bu := t.bu }

/-- An unaligned store rewrites the aligned datum of `n` bytes that contains the address: byte `j` becomes byte
`pick j` of the register, or stays where `pick j` is none. -/
def StoresMerged (i : Instr) (s : State) (n : Nat) (rt base : Reg) (offset : Half) (pick : Nat → Nat → Option Nat) :
    Prop :=
  ∀ wide w off, s.op64? = some wide → s.mem.wf = true →
    Reaches s (dataAddress s wide base offset - BitVec.ofNat 64 ((dataAddress s wide base offset).toNat % n)) n w off →
    ∃ t v, exec i s = .next t ∧ Advanced s t ∧
      (∀ j, j < n → byteOf n v j =
        match pick ((dataAddress s wide base offset).toNat % n) j with
        | some m => byteOf n (s.readReg rt) m
        | none => byteOf n (loadedFrom s w off n).1 j) ∧
      t = { (loadedFrom s w off n).2 with mem := t.mem, pc := t.pc, bu := t.bu } ∧
      Stored s.mem t.mem w.device off n v ∧ OtherBytesKept s t w.device off n

/-! ## Floating point -/

/-- FCR31 keeps every bit outside Cause, and outside Flags too where `flags` says so. -/
def Fcr31Kept (f g : Word) (flags : Bool) : Prop :=
  ∀ k, (k < 12 ∨ 17 < k) → (flags = true ∨ k < 2 ∨ 6 < k) → g.getLsbD k = f.getLsbD k

/-- The instruction raises FloatingPoint with the Cause field `c` recorded; nothing else changes (R392, R482). -/
def RaisesFloatingPoint (i : Instr) (s : State) (c : BitVec 6) : Prop :=
  ∃ t, exec i s = .next t ∧ causeField t.fcr31 = c ∧ Fcr31Kept s.fcr31 t.fcr31 true ∧
    t = { s with fcr31 := t.fcr31, pending := { s.pending with sync := some .floatingPoint } }

/-- The instruction completes with the exceptions `x` recorded and accumulated, and the value `bits` in the view `v` of
register `fd`; `d` free values are drawn (R392 steps 4, 6 and 7). -/
def WritesFpr (i : Instr) (s : State) (v : FpView) (fd : Reg) (bits : Dword) (x : Signals) (d : Nat) : Prop :=
  ∃ t, exec i s = .next t ∧ Advanced s t ∧ causeField t.fcr31 = x.setWidth 6 ∧
    flagsField t.fcr31 = flagsField s.fcr31 ||| x ∧ Fcr31Kept s.fcr31 t.fcr31 false ∧
    t = { s.writeView v fd bits with fcr31 := t.fcr31, pc := t.pc, bu := t.bu, draws := s.draws + d }

/-- The common sequence of R392 for an operation that computes `out`, with its result in format `dst` written to the
view `v` of `fd`; where that view does not exist the instruction stops when it would write it (R32, U13; its place in
the order is the model's, log 13). -/
def FollowsSequence (i : Instr) (s : State) (dst : FloatFormat) (v : FpView) (fd : Reg) (out : FpOut) : Prop :=
  (∀ bits x, out = .result bits x → x &&& enableField s.fcr31 = 0 →
    (ViewExists s v fd → WritesFpr i s v fd bits x 0) ∧ (¬ViewExists s v fd → StopsOnOddView i s)) ∧
  (∀ bits x, out = .result bits x → x &&& enableField s.fcr31 ≠ 0 → RaisesFloatingPoint i s (x.setWidth 6)) ∧
  (out = .unimplemented → RaisesFloatingPoint i s 0x20#6) ∧
  (out = .propagateNaN →
    (ViewExists s v fd → ∃ b, dst.isNaN b = true ∧ WritesFpr i s v fd b 0 1) ∧
    (¬ViewExists s v fd → StopsOnOddView i s))

/-- A binary operation on registers of one format follows the sequence, where the views of its operands exist. -/
def ComputesBinary (i : Instr) (s : State) (f : FloatFormat) (v : FpView) (fd fs ft : Reg)
    (op : Dword → Dword → FpOut) : Prop :=
  s.cu1 = true →
    (ViewExists s v fs → ViewExists s v ft → FollowsSequence i s f v fd (op (s.readView v fs) (s.readView v ft))) ∧
    (¬ViewExists s v fs ∨ ¬ViewExists s v ft → StopsOnOddView i s)

/-- A unary operation follows the sequence, where the view of its operand exists. -/
def ComputesUnary (i : Instr) (s : State) (src : FpView) (dst : FloatFormat) (v : FpView) (fd fs : Reg)
    (op : Dword → FpOut) : Prop :=
  s.cu1 = true →
    (ViewExists s src fs → FollowsSequence i s dst v fd (op (s.readView src fs))) ∧
    (¬ViewExists s src fs → StopsOnOddView i s)

/-- The invalid-operation case of a compare (R414). -/
def compareSignals (s : State) (f : FloatFormat) (cond : BitVec 4) (a b : Dword) : Prop :=
  (f.isNaN a = true ∨ f.isNaN b = true) ∧
    (cond.getLsbD 3 = true ∨ (s.cfg.numerics.compareSNaNSignals = true ∧
      (f.isSignaling s.cfg.numerics.nan a = true ∨ f.isSignaling s.cfg.numerics.nan b = true)))

/-- A compare of `a` and `b` with the condition `cond` (R414). -/
def Compares (i : Instr) (s : State) (f : FloatFormat) (cond : BitVec 4) (a b : Dword) : Prop :=
  (compareSignals s f cond a b → (enableField s.fcr31).getLsbD 4 = true → RaisesFloatingPoint i s 0x10#6) ∧
  (∀ x : Signals, (compareSignals s f cond a b ∧ (enableField s.fcr31).getLsbD 4 = false ∧ x = 0x10#5) ∨
      (¬compareSignals s f cond a b ∧ x = 0) →
    ∃ t, exec i s = .next t ∧ Advanced s t ∧ causeField t.fcr31 = x.setWidth 6 ∧
      flagsField t.fcr31 = flagsField s.fcr31 ||| x ∧
      (t.fcr31.getLsbD 23 = true ↔ (cond.getLsbD 2 = true ∧ f.less a b = true) ∨
        (cond.getLsbD 1 = true ∧ f.equal a b = true) ∨
        (cond.getLsbD 0 = true ∧ (f.isNaN a = true ∨ f.isNaN b = true))) ∧
      (∀ k, k ≠ 23 → (k < 12 ∨ 17 < k) → (k < 2 ∨ 6 < k) → t.fcr31.getLsbD k = s.fcr31.getLsbD k) ∧
      t = { s with fcr31 := t.fcr31, pc := t.pc, bu := t.bu })

/-- The rational number an encoding stands for; none for a NaN or an infinity. -/
def FloatFormat.rational (f : FloatFormat) (b : Dword) : Option ℚ :=
  match f.value b with
  | .finite neg m e => some ((if neg then -1 else 1) * (m : ℚ) * (2 : ℚ) ^ e)
  | .inf _ => none
  | .nan => none

/-- The mode rounds a number of this sign to the magnitude below it. -/
def TowardZero (rm : Rounding) (neg : Bool) : Prop := rm = .zero ∨ (rm = .up ∧ neg = true) ∨ (rm = .down ∧ neg = false)

/-- The mode rounds a number of this sign to the magnitude above it. -/
def AwayFromZero (rm : Rounding) (neg : Bool) : Prop := (rm = .up ∧ neg = false) ∨ (rm = .down ∧ neg = true)

/-- A number of magnitude `v`, rounded with no bound on the exponent, is beyond the largest finite number of the format:
from the next power of two on, or from the last bit, or half of it, below that power. -/
def FloatFormat.Overflows (f : FloatFormat) (rm : Rounding) (neg : Bool) (v : ℝ) : Prop :=
  let top := (2 : ℝ) ^ ((f.bias : Int) + 1)
  let ulp := (2 : ℝ) ^ ((f.bias : Int) - f.fracBits)
  (TowardZero rm neg → top ≤ v) ∧ (AwayFromZero rm neg → top - ulp < v) ∧ (rm = .nearest → top - ulp / 2 ≤ v)

/-- A number of magnitude `v` is tiny: below the least normal number, before or after it is rounded with no bound on the
exponent (R393). -/
def FloatFormat.Tiny (f : FloatFormat) (t : Tininess) (rm : Rounding) (neg : Bool) (v : ℝ) : Prop :=
  let least := (2 : ℝ) ^ f.minExp
  let ulp := (2 : ℝ) ^ (f.minExp - f.fracBits)
  (t = .beforeRounding → v < least) ∧
  (t = .afterRounding → (TowardZero rm neg → v < least) ∧ (AwayFromZero rm neg → v ≤ least - ulp / 2) ∧
    (rm = .nearest → v < least - ulp / 4))

/-- What IEEE 754 delivers for the exact number of sign `neg` and magnitude `v`, not zero, with the set `x` of
exceptions (R393, gradual underflow): on overflow infinity or the largest finite number with O and I; else the number
of the format that the mode chooses among all, with I when it is not exact and U when it is moreover tiny. -/
def Delivers (f : FloatFormat) (nu : Numerics) (rm : Rounding) (neg : Bool) (v : ℝ) (out : FpOut) : Prop :=
  ∃ (b : Dword) (x : Signals), out = .result b x ∧ b.toNat < 2 ^ (f.expBits + f.fracBits + 1) ∧ f.signOf b = neg ∧
    (f.Overflows rm neg v → x = 0x05#5 ∧ (TowardZero rm neg → b = f.largest neg) ∧
      (¬TowardZero rm neg → f.value b = .inf neg)) ∧
    (¬f.Overflows rm neg v → ∃ z : ℚ, f.rational b = some z ∧
      (TowardZero rm neg → ((abs z : ℚ) : ℝ) ≤ v ∧
        ∀ c y, f.rational c = some y → ((abs y : ℚ) : ℝ) ≤ v → abs y ≤ abs z) ∧
      (AwayFromZero rm neg → v ≤ ((abs z : ℚ) : ℝ) ∧
        ∀ c y, f.rational c = some y → v ≤ ((abs y : ℚ) : ℝ) → abs z ≤ abs y) ∧
      (rm = .nearest → ∀ c y, f.rational c = some y →
        abs (v - ((abs z : ℚ) : ℝ)) ≤ abs (v - ((abs y : ℚ) : ℝ)) ∧
        (abs (v - ((abs z : ℚ) : ℝ)) = abs (v - ((abs y : ℚ) : ℝ)) → abs y ≠ abs z → b.getLsbD 0 = false)) ∧
      (x.getLsbD 0 = true ↔ ((abs z : ℚ) : ℝ) ≠ v) ∧
      (x.getLsbD 1 = true ↔ ((abs z : ℚ) : ℝ) ≠ v ∧ f.Tiny nu.tininess rm neg v) ∧
      x.getLsbD 2 = false ∧ x.getLsbD 3 = false ∧ x.getLsbD 4 = false)

/-! ## Exceptions -/

/-- The return address of a dispatch (R507). -/
def backedUpAddress (s : State) : Dword := if s.bu.branchDelayPending then s.pc - 4 else s.pc

/-- The saved branch unit of a dispatch (R508). -/
def savedUnit (s : State) : BranchUnit :=
  if s.bu.branchDelayPending then ⟨false, false, false, 0, s.bu.nullifyNext⟩ else s.bu

/-- Everything a dispatch leaves unchanged: of what is pending, the TLB request and the information of an XTLB request
(`xtlbStore`, a field of the model's own, log 15) too. That a TLB or XTLB refill that is taken leaves Context,
BadVAddr, XContext and EntryHi too is the model's choice (log 15; R49). -/
def DispatchKeeps (s t : State) : Prop :=
  t = { s with
    pc := t.pc, bu := t.bu, snapshot := t.snapshot
    pending := { s.pending with
      sync := t.pending.sync, nmi := t.pending.nmi, xtlb := t.pending.xtlb, cacheErr := t.pending.cacheErr }
    cop0 := { s.cop0 with
      epc := t.cop0.epc, errorEpc := t.cop0.errorEpc, cause := t.cop0.cause, status := t.cop0.status } }

/-- The coprocessor-0 numbers that hold a value of their own when read: every number of R44 but Random. -/
def namedC0 : List Reg :=
  [0, 2, 3, 4, 5, 6, 8, 9, 10, 11, 12, 13, 14, 15, 16, 17, 18, 19, 20, 26, 27, 28, 29, 30]

/-- The writable coprocessor-0 registers, whether each has 64 bits, and its mask (R45 to R71, R285); the mask of a
32-bit register is written sign-extended, as the register reads. -/
def writableC0 : List (Reg × Bool × Dword) :=
  [ (0, false, 0xFFFFFFFF8000003F#64), (2, true, 0x0000000003FFFFFF#64), (3, true, 0x0000000003FFFFFF#64),
    (4, true, 0xFFFFFFFFFF800000#64), (5, false, 0x0000000001FFE000#64), (6, false, 0x000000000000003F#64),
    (9, false, 0xFFFFFFFFFFFFFFFF#64), (10, true, 0xC00000FFFFFFE0FF#64), (11, false, 0xFFFFFFFFFFFFFFFF#64),
    (12, false, 0xFFFFFFFFFF77FFFF#64), (13, false, 0x0000000000000300#64), (14, true, 0xFFFFFFFFFFFFFFFF#64),
    (16, false, 0x000000000F00000F#64), (17, false, 0xFFFFFFFFFFFFFFFF#64), (18, false, 0xFFFFFFFFFFFFFFFB#64),
    (19, false, 0x000000000000000F#64), (20, true, 0xFFFFFFFE00000000#64), (26, false, 0x00000000000000FF#64),
    (28, false, 0x000000000FFFFFC0#64), (30, true, 0xFFFFFFFFFFFFFFFF#64) ]

/-- Coprocessor 0 of `t` is that of `s` with `v` written to register `n` (R285, R287): the register takes the bits of
its mask, a write to Compare clears the timer interrupt, and every other register reads as before. -/
def C0Written (s t : State) (n : Reg) (v : Dword) : Prop :=
  (∀ wide mask, (n, wide, mask) ∈ writableC0 →
    (t.readC0 n).1 = ((s.readC0 n).1 &&& ~~~mask) ||| ((if wide then v else sext64 (trunc32 v)) &&& mask)) ∧
  (∀ q ∈ namedC0, q ≠ n → ¬(n = 11 ∧ q = 13) → (t.readC0 q).1 = (s.readC0 q).1) ∧
  ((∀ wide mask, (n, wide, mask) ∉ writableC0) → t.cop0 = s.cop0) ∧
  (n = 11 → (t.readC0 13).1 = (s.readC0 13).1 &&& ~~~0x8000#64) ∧
  t.cop0.random = s.cop0.random

/-- The instruction completes with `v` written to coprocessor-0 register `n` and changes nothing else. -/
def WritesC0 (i : Instr) (s : State) (n : Reg) (v : Dword) : Prop :=
  ∃ t, exec i s = .next t ∧ Advanced s t ∧ C0Written s t n v ∧ t = { s with cop0 := t.cop0, pc := t.pc, bu := t.bu }

end Sys2Proof.Machine

open Sys2Proof Sys2Proof.Machine

/-! ## Reset and the invariant -/

/-- R74, R541, R542, R34, R61, R62: what reset leaves, for every draw, launch parameters and address map (the
registers that the rule leaves unspecified are not named; that the draw fills only the fields Cause and Status have is
log 29), and that the tick of the first Step takes no interrupt, whatever was drawn, unless NMI is requested: the
fetch is at the reset vector. -/
def Obligations.ResetLeavesTheStatedValues : Prop :=
  (∀ (cfg : Config) (map : List Window) (d : ResetDraw),
    let s := State.resetWith cfg map d
    s.readReg 0 = 0 ∧ s.pc = 0xFFFFFFFFBFC00000#64 ∧
    (s.bu.takeBranch = false ∧ s.bu.branchDelayPending = false ∧ s.bu.unconditionalJump = false ∧
      s.bu.nullifyNext = false) ∧
    (s.snapshot.takeBranch = false ∧ s.snapshot.branchDelayPending = false ∧
      s.snapshot.unconditionalJump = false ∧ s.snapshot.nullifyNext = false) ∧
    s.inject = none ∧
    (s.pending.sync = none ∧ s.pending.nmi = false ∧ s.pending.xtlb = false ∧ s.pending.tlb = false ∧
      s.pending.cacheErr = false) ∧
    (s.erl = true ∧ s.bev = true ∧ s.cop0.status.getLsbD 21 = false ∧ s.cop0.status.getLsbD 20 = false ∧
      s.cop0.status.getLsbD 27 = false) ∧
    (∀ k, k < 32 → k ≠ 2 → k ≠ 19 → k ≠ 20 → k ≠ 21 → k ≠ 22 → k ≠ 23 → k ≠ 27 →
      s.cop0.status.getLsbD k = d.status.getLsbD k) ∧
    (∀ k ∈ [31, 29, 28, 15, 12, 10, 9, 8, 6, 5, 4, 3, 2], s.cop0.cause.getLsbD k = d.cause.getLsbD k) ∧
    (∀ k, k ∉ [31, 29, 28, 15, 12, 10, 9, 8, 6, 5, 4, 3, 2] → s.cop0.cause.getLsbD k = false) ∧
    s.cop0.count = d.count ∧ s.cop0.compare = d.compare ∧
    s.cop0.random = 31 ∧ s.cop0.wired = 0 ∧
    (s.cop0.config &&& 0x80FFFFF0#32 = 0x0006E460#32 ∧
      s.cop0.config &&& 0x7F00000F#32 = cfg.configValue &&& 0x7F00000F#32) ∧
    (s.readC0 15).1.toNat = cfg.prid.toNat ∧ (s.readFCR 0).1.toNat = cfg.fcr0.toNat ∧
    (s.readC0 27).1 = 0 ∧ (s.readC0 29).1 = 0 ∧
    s.mode? = some .kernel ∧ s.interruptCondition = false) ∧
  (∀ (cfg : Config) (map : List Window) (d : ResetDraw) (i : Inputs), i.nmiReq = false →
    let s := (State.resetWith cfg map d).driveInputs i
    s.tick.pc = 0xFFFFFFFFBFC00000#64 ∧ s.tick.erl = true ∧ s.tick.exl = (d.status.getLsbD 1) ∧
      s.tick.op64? = some true ∧ s.tick.ip.getLsbD 2 = i.extLine ∧ s.tick.ip.getLsbD 4 = i.resetButton)

/-- The invariant of Safety.lean holds after reset, for all launch parameters and every well-formed map. (What a
well-formed map is beyond R83 and R87 is the model's choice, log 32.) -/
def Obligations.ResetMeetsTheInvariant : Prop :=
  State.reset.Inv ∧ ∀ (cfg : Config) (map : List Window) (d : ResetDraw),
    mapWf map = true → (State.resetWith cfg map d).Inv

/-- The invariant of Safety.lean is kept by every Step, from every state that meets it: memory stays canonical (R85),
the branch unit and the snapshot stay in their legal states (R39, R508), reserved register bits stay zero (R35, R45 to
R71), the map stays disjoint (R83). (What a well-formed map is beyond R83 and R87 is the model's choice, log 32.) -/
def Obligations.EveryStepKeepsTheInvariant : Prop := ∀ s t : State, s.Inv → step s = .next t → t.Inv

/-! ## Encoding -/

/-- Decoding the encoding of a well-formed instruction gives it back, with every operand. -/
def Obligations.DecodeOfEncodeIsTheInstruction : Prop :=
  ∀ i : Instr, i.wellFormed = true → decode (encode i) = .instr i

/-- R141: a word that selects an instruction's row decodes to an instruction of that row, and a word that decodes to an
instruction selects its row. -/
def Obligations.WordSelectsTheRowItDecodesTo : Prop :=
  ∀ w : Word,
    (∀ i : Instr, decode w = .instr i → w &&& i.row.1 = i.row.2 ∧ i.wellFormed = true) ∧
    (∀ i : Instr, w &&& i.row.1 = i.row.2 → ∃ j : Instr, decode w = .instr j ∧ j.row = i.row)

/-- R135, R472: exactly the listed words are Reserved, and running one raises ReservedInstruction. -/
def Obligations.ReservedEncodings : Prop :=
  (∀ w : Word, decode w = .reserved ↔
    (opOf w).toNat ∈ [19, 28, 29, 30, 31, 50, 51, 54, 58, 59, 62] ∨
    (opOf w = 0 ∧ (functOf w).toNat ∈ [1, 5, 10, 11, 14, 21, 40, 41, 53, 55, 57, 61]) ∨
    (opOf w = 1 ∧ (rtOf w).toNat ∈ [4, 5, 6, 7, 13, 15, 20, 21, 22, 23, 24, 25, 26, 27, 28, 29, 30, 31]) ∨
    (opOf w = 16 ∧ w.getLsbD 25 = false ∧ (rsOf w).toNat ∈ [2, 3, 6, 7, 8, 9, 10, 11, 12, 13, 14, 15]) ∨
    (opOf w = 16 ∧ w.getLsbD 25 = true ∧ (functOf w).toNat ∉ [1, 2, 6, 8, 24]) ∨
    (opOf w = 17 ∧ (rsOf w).toNat ∈ [3, 7, 9, 10, 11, 12, 13, 14, 15, 18, 19, 22, 23, 24, 25, 26, 27, 28, 29, 30, 31]) ∨
    (opOf w = 17 ∧ rsOf w = 8 ∧ 4 ≤ (rtOf w).toNat) ∨
    (opOf w = 17 ∧ (rsOf w).toNat ∈ [16, 17, 20, 21] ∧ ((16 ≤ (functOf w).toNat ∧ (functOf w).toNat ≤ 31) ∨
      (functOf w).toNat ∈ [34, 35] ∨ (38 ≤ (functOf w).toNat ∧ (functOf w).toNat ≤ 47)))) ∧
  (∀ s : State, execDecoded .reserved s =
    .next { s with pending := { s.pending with sync := some .reservedInstruction } })

/-- R471, R433: coprocessor 2 and the floating-point functions in a format they do not take. -/
def Obligations.Cop2AndUnimplementedFormats : Prop :=
  (∀ w : Word, opOf w = 18 ↔ decode w = .cop2) ∧
  (∀ w : Word, decode w = .fpUnimplementedFormat ↔ opOf w = 17 ∧
    ((rsOf w = 16 ∧ (functOf w).toNat = 32) ∨ (rsOf w = 17 ∧ (functOf w).toNat = 33) ∨
     ((rsOf w = 20 ∨ rsOf w = 21) ∧ ((functOf w).toNat ≤ 15 ∨ (functOf w).toNat ∈ [36, 37] ∨
       48 ≤ (functOf w).toNat)))) ∧
  (∀ s : State, s.cu2 = false → execDecoded .cop2 s =
    .next { s with pending := { s.pending with sync := some (.coprocessorUnusable 2) } }) ∧
  (∀ s : State, s.cu2 = true → execDecoded .cop2 s =
    .next { s with pending := { s.pending with sync := some .reservedInstruction } }) ∧
  (∀ s : State, s.cu1 = false → execDecoded .fpUnimplementedFormat s =
    .next { s with pending := { s.pending with sync := some (.coprocessorUnusable 1) } }) ∧
  (∀ s : State, s.cu1 = true → ∃ t, execDecoded .fpUnimplementedFormat s = .next t ∧
    causeField t.fcr31 = 0x20#6 ∧ Fcr31Kept s.fcr31 t.fcr31 true ∧
    t = { s with fcr31 := t.fcr31, pending := { s.pending with sync := some .floatingPoint } })

/-- Some words of the rules' own examples, one of each map of the decoder. -/
def Obligations.ExampleWordsDecode : Prop :=
  decode 0x012A4020#32 = .instr (.add 8 9 10) ∧ decode 0x2128FFFF#32 = .instr (.addi 8 9 0xFFFF) ∧
  decode 0x05310003#32 = .instr (.bgezal 9 3) ∧ decode 0x08000400#32 = .instr (.j 0x400) ∧
  decode 0x40086000#32 = .instr (.mfc0 8 12) ∧ decode 0x42000018#32 = .instr .eret ∧
  decode 0x44C8F800#32 = .instr (.ctc1 8 31) ∧ decode 0x45010003#32 = .instr (.bc1t 3) ∧
  decode 0x46241002#32 = .instr (.mulD 0 2 4) ∧ decode 0x46801020#32 = .instr (.cvtSW 0 2) ∧
  decode 0x89280004#32 = .instr (.lwl 8 9 4) ∧ decode 0x70000000#32 = .reserved ∧
  decode 0x46801000#32 = .fpUnimplementedFormat ∧ decode 0x48000000#32 = .cop2

/-! ## The Step -/

/-- R160, R163, R164: a Step runs the instruction that its fetch, after the tick, reads and decodes. -/
def Obligations.StepRunsTheFetchedInstruction : Prop :=
  ∀ (s u : State) (m : Mode) (v : Dword) (i : Instr), s.mode? = some m → s.tick.bu.nullifyNext = false →
    s.tick.inject = none → s.tick.pc.toNat % 4 = 0 → memRead s.tick (trunc32 s.tick.pc) 4 = .ok v u →
    decode (trunc32 v) = .instr i → i.wellFormed = true → step s = exec i u

/-- R162, R163, R98, R113, R82: an injected word runs at the same place, is consumed, and memory is not read; a
nullified slot is neither fetched nor run, `Inject` stays, and nothing is raised; a fetch at a misaligned pc raises
AddressErrorLoad(pc); a fetch that finds no device raises BusErrorFetch, which records no address; a fetch at an
address without translation is refused, or raises or requests the refill of the `TlbStub` where one is supplied (R82,
R484; what the stub records is the model's choice, log 15). (What the failed fetch, the injected word and the
nullified slot leave is read from the rules, log 30.) -/
def Obligations.InjectedWordsNullifiedSlotsAndFailedFetches : Prop :=
  (∀ (s : State) (m : Mode) (w : Word), s.mode? = some m → s.tick.bu.nullifyNext = false → s.inject = some w →
    step s = execDecoded (decode w) { s.tick with inject := none }) ∧
  (∀ (s : State) (m : Mode), s.mode? = some m → s.tick.bu.nullifyNext = true →
    step s = .next { s.tick with bu := { s.tick.bu with nullifyNext := false }, pc := s.tick.pc + 4 } ∧
      s.tick.inject = s.inject) ∧
  (∀ (s : State) (m : Mode), s.mode? = some m → s.tick.bu.nullifyNext = false → s.inject = none →
    (s.tick.pc.toNat % 4 ≠ 0 → step s = .next { s.tick with
      pending := { s.tick.pending with sync := some (.addressErrorLoad s.tick.pc) },
      cop0 := { s.tick.cop0 with badVAddr := s.tick.pc } }) ∧
    (s.tick.pc.toNat % 4 = 0 →
      (FindsNoDevice s.tick s.tick.pc 4 → step s = .next { s.tick with
        pending := { s.tick.pending with sync := some .busErrorFetch } }) ∧
      (translate s.cfg (trunc32 s.tick.pc) = .outsideBlock → step s = .refused .translationOutsideBlock) ∧
      (translate s.cfg (trunc32 s.tick.pc) = .refill .tlb → step s = .next { s.tick with
        pending := { s.tick.pending with sync := some (.tlbRefill false) } }) ∧
      (translate s.cfg (trunc32 s.tick.pc) = .refill .xtlb → step s = .next { s.tick with
        pending := { s.tick.pending with xtlb := true, xtlbStore := false } })))

/-- R490, R491: the timer, for one tick and for the ticks of one period; IP[2] and IP[4] follow their lines at every
tick, the other pending bits but IP[7] keep their values, and a request of the non-maskable interrupt is taken at that
tick. -/
def Obligations.TickTimerAndInputs : Prop :=
  ((∀ s : State, s.cop0.compare ≠ 0 → s.cop0.count + 1 = s.cop0.compare →
    s.tick.cop0.count = 0 ∧ s.tick.cop0.cause.getLsbD 15 = true) ∧
  (∀ s : State, s.cop0.compare = 0 ∨ s.cop0.count + 1 ≠ s.cop0.compare →
    s.tick.cop0.count = s.cop0.count + 1 ∧ s.tick.cop0.cause.getLsbD 15 = s.cop0.cause.getLsbD 15) ∧
  (∀ s : State, s.tick.cop0.compare = s.cop0.compare) ∧
  (∀ (s : State) (n : Nat), s.cop0.count = 0 → n < s.cop0.compare.toNat →
    (State.tick^[n] s).cop0.count.toNat = n ∧
    (n + 1 = s.cop0.compare.toNat →
      (State.tick^[n + 1] s).cop0.count = 0 ∧ (State.tick^[n + 1] s).cop0.cause.getLsbD 15 = true))) ∧
  (∀ s : State,
    s.tick.ip.getLsbD 2 = decide (s.inputs.extIntr &&& s.inputs.extMask ≠ 0) ∧
    s.tick.ip.getLsbD 4 = s.inputs.resetButton ∧
    (∀ k, k < 7 → k ≠ 2 → k ≠ 4 → s.tick.ip.getLsbD k = s.ip.getLsbD k) ∧
    (s.inputs.nmiReq = true → s.tick.pc = 0xFFFFFFFFBFC00000#64 ∧ s.tick.erl = true ∧ s.tick.pending.nmi = false))

/-- R495, R497: at most one event is taken, in the order of the rule; maskable interrupts need IE = 1, EXL = ERL = 0
and a pending bit whose mask bit is set. That an XTLB refill is dispatched with the bit `xtlbStore`, a field of the
model's own, is the model's choice (log 15). -/
def Obligations.OneEventInPriorityOrder : Prop :=
  ∀ s u : State, u = s.timer.sampleInputs →
    (u.pending.nmi = (s.pending.nmi || s.inputs.nmiReq) ∧ u.pending.xtlb = s.pending.xtlb ∧
      u.pending.cacheErr = s.pending.cacheErr ∧ u.pending.sync = s.pending.sync) ∧
    (u.pending.nmi = true → s.tick = u.takeException .nmi) ∧
    (u.pending.nmi = false → u.pending.xtlb = true →
      s.tick = u.takeException (.xtlbRefill s.pending.xtlbStore)) ∧
    (u.pending.nmi = false → u.pending.xtlb = false → u.pending.cacheErr = true →
      s.tick = u.takeException .cacheError) ∧
    (∀ e, u.pending.nmi = false → u.pending.xtlb = false → u.pending.cacheErr = false → u.pending.sync = some e →
      s.tick = u.takeException (.sync e)) ∧
    (u.pending.nmi = false → u.pending.xtlb = false → u.pending.cacheErr = false → u.pending.sync = none →
      (s.ie = true ∧ s.exl = false ∧ s.erl = false ∧ (∃ k, k < 8 ∧ u.ip.getLsbD k = true ∧ s.im.getLsbD k = true) →
        s.tick = u.takeException .interrupt) ∧
      (s.ie = false ∨ s.exl = true ∨ s.erl = true ∨ (∀ k, k < 8 → u.ip.getLsbD k = true → s.im.getLsbD k = false) →
        s.tick = u)) ∧
    s.tick.pending.sync = none

/-! ## Taking an exception and returning -/

/-- R507, R508: what a dispatch of each class saves, sets and leaves. Two clauses rest on the model's choice (log 15):
that the information of an XTLB request, `xtlbStore`, is kept, a field of the model's own, and that taking a TLB or
XTLB refill leaves Context (whose BadVPN2 R49 calls written by a TLB exception), BadVAddr, XContext and EntryHi as
they were. -/
def Obligations.DispatchBookkeeping : Prop :=
  (∀ (s t : State) (ev : Event), ev ≠ .nmi → ev ≠ .cacheError → t = s.takeException ev →
    (s.exl = false → t.cop0.epc = backedUpAddress s ∧ t.cop0.cause.getLsbD 31 = s.bu.branchDelayPending ∧
      t.snapshot = savedUnit s) ∧
    (s.exl = true → t.cop0.epc = s.cop0.epc ∧ t.cop0.cause.getLsbD 31 = s.cop0.cause.getLsbD 31 ∧
      t.snapshot = s.snapshot) ∧
    t.cop0.cause.extractLsb' 2 5 = ev.code ∧ t.cop0.cause.extractLsb' 28 2 = ev.ce ∧
    (∀ k, k < 2 ∨ (6 < k ∧ k < 28) ∨ k = 30 → t.cop0.cause.getLsbD k = s.cop0.cause.getLsbD k) ∧
    t.cop0.status = s.cop0.status ||| 2#32 ∧ t.cop0.errorEpc = s.cop0.errorEpc ∧
    t.pc = s.vector ev ∧ t.bu = ⟨false, false, false, 0, false⟩ ∧
    t.pending.sync = none ∧ t.pending.nmi = s.pending.nmi ∧ t.pending.cacheErr = s.pending.cacheErr ∧
    (∀ w, ev = .xtlbRefill w → t.pending.xtlb = false) ∧
    ((∀ w, ev ≠ .xtlbRefill w) → t.pending.xtlb = s.pending.xtlb) ∧
    t.mode? = some .kernel ∧ DispatchKeeps s t) ∧
  (∀ (s t : State) (ev : Event), ev = .nmi ∨ ev = .cacheError → t = s.takeException ev →
    t.cop0.errorEpc = backedUpAddress s ∧ t.snapshot = savedUnit s ∧
    t.cop0.cause.getLsbD 31 = s.bu.branchDelayPending ∧
    (∀ k, k ≠ 31 → t.cop0.cause.getLsbD k = s.cop0.cause.getLsbD k) ∧
    t.cop0.status = s.cop0.status ||| 4#32 ∧ t.cop0.epc = s.cop0.epc ∧
    t.pc = s.vector ev ∧ t.bu = ⟨false, false, false, 0, false⟩ ∧
    t.pending.sync = none ∧ t.pending.xtlb = s.pending.xtlb ∧
    (ev = .nmi → t.pending.nmi = false ∧ t.pending.cacheErr = s.pending.cacheErr) ∧
    (ev = .cacheError → t.pending.cacheErr = false ∧ t.pending.nmi = s.pending.nmi) ∧
    t.mode? = some .kernel ∧ DispatchKeeps s t)

/-- R480, R505, R506: the code of every exception with Cause.CE, and the vector of every event. Two arms of R505 match a
cache error taken with EXL = 1: that it goes to 0x100 there, and the vectors under DirectVector with EXL = 1, are the
model's reading (log 28). -/
def Obligations.ExceptionCodesAndVectors : Prop :=
  (Event.interrupt.code = 0 ∧ (∀ va, (Event.sync (.addressErrorLoad va)).code = 4) ∧
  (∀ va, (Event.sync (.addressErrorStore va)).code = 5) ∧ (Event.sync .busErrorFetch).code = 6 ∧
  (Event.sync .busErrorData).code = 7 ∧ (Event.sync .syscall).code = 8 ∧ (Event.sync .breakpoint).code = 9 ∧
  (Event.sync .reservedInstruction).code = 10 ∧ (∀ n, (Event.sync (.coprocessorUnusable n)).code = 11) ∧
  (Event.sync .overflow).code = 12 ∧ (Event.sync .trap).code = 13 ∧ (Event.sync .floatingPoint).code = 15 ∧
  (Event.sync (.tlbRefill false)).code = 2 ∧ (Event.sync (.tlbRefill true)).code = 3 ∧
  (Event.xtlbRefill false).code = 2 ∧ (Event.xtlbRefill true).code = 3 ∧
  (∀ n, (Event.sync (.coprocessorUnusable n)).ce = n) ∧ Event.interrupt.ce = 0 ∧
  (∀ e : Exc, (∀ n, e ≠ .coprocessorUnusable n) → (Event.sync e).ce = 0)) ∧
  ((∀ s : State, s.vector .nmi = 0xFFFFFFFFBFC00000#64) ∧
  (∀ (s : State) (ev : Event) (offset : Dword), ev ≠ .nmi →
    (offset = 0x000 ∧ s.exl = false ∧ (∃ w, ev = .sync (.tlbRefill w))) ∨
    (offset = 0x080 ∧ s.exl = false ∧ (∃ w, ev = .xtlbRefill w)) ∨
    (offset = 0x100 ∧ ev = .cacheError) ∨
    (offset = 0x180 ∧ ev ≠ .cacheError ∧
      (s.exl = true ∨ ((∀ w, ev ≠ .sync (.tlbRefill w)) ∧ ∀ w, ev ≠ .xtlbRefill w))) →
    (s.cfg.directVector = true → s.vector ev = offset) ∧
    (s.cfg.directVector = false → s.bev = true → s.vector ev = 0xFFFFFFFFBFC00200#64 + offset) ∧
    (s.cfg.directVector = false → s.bev = false → s.vector ev = 0xFFFFFFFF80000000#64 + offset)) ∧
  (∀ (s : State) (ev : Event), (s.takeException ev).pc = s.vector ev))

/-- R511, R509: what an instruction raises is dispatched by the very next tick with the address of that instruction, or
of the branch whose delay slot it is, when nothing of higher priority is pending. -/
def Obligations.RaisedExceptionReachesItsHandler : Prop :=
  ∀ (d : Decoded) (s t : State) (e : Exc), execDecoded d s = .next t → s.pending.sync = none → t.pending.sync = some e →
    s.pending.nmi = false → s.inputs.nmiReq = false → s.pending.xtlb = false → s.pending.cacheErr = false →
    s.exl = false →
    t.tick.cop0.epc = backedUpAddress s ∧ t.tick.cop0.cause.getLsbD 31 = s.bu.branchDelayPending ∧
      t.tick.cop0.cause.extractLsb' 2 5 = e.code ∧ t.tick.exl = true ∧
      t.tick.pc = s.vector (.sync e) ∧ t.tick.gpr = s.gpr ∧ t.tick.mem = s.mem ∧ t.tick.hi = s.hi ∧
      t.tick.lo = s.lo ∧ t.tick.fpr = s.fpr

/-- R450: ERET. -/
def Obligations.EretReturns : Prop :=
  ∀ s : State, Cop0Usable s → s.bu.branchDelayPending = false →
    ∃ t, exec .eret s = .next t ∧
      (s.erl = true → t.pc = s.cop0.errorEpc ∧ t.cop0.status = s.cop0.status &&& ~~~4#32) ∧
      (s.erl = false → t.pc = s.cop0.epc ∧ t.cop0.status = s.cop0.status &&& ~~~2#32) ∧
      t.bu = s.snapshot ∧ t.snapshot = ⟨false, false, false, 0, false⟩ ∧ t.llBit = false ∧
      t = { s with
        pc := t.pc, bu := t.bu, snapshot := t.snapshot, llBit := t.llBit,
        cop0 := { s.cop0 with status := t.cop0.status } }

/-- R507, R508, R450: an exception taken outside every handler, and the ERET that follows it with nothing written in
between, resume where the program was: at the instruction, or at its branch when it is in a delay slot, with a slot that
was to be nullified still to be nullified. -/
def Obligations.ReturnUndoesTheDispatch : Prop :=
  ∀ (s : State) (ev : Event), s.exl = false → s.erl = false →
    let t := (s.takeException ev).returnFromException
    t.pc = backedUpAddress s ∧ t.cop0.status = s.cop0.status ∧ t.bu = savedUnit s ∧ t.mode? = s.mode? ∧
      t.llBit = false ∧ t.gpr = s.gpr ∧ t.hi = s.hi ∧ t.lo = s.lo ∧ t.fpr = s.fpr ∧ t.fcr31 = s.fcr31 ∧ t.mem = s.mem

/-- R167: an instruction that raises has no other effect: the state after it differs from the state before it in the
pending exception, in BadVAddr for the two address errors, and in FCR31.Cause for FloatingPoint; one that requests an
XTLB refill has no other effect either. That a TLB or XTLB refill leaves BadVAddr, Context, XContext and EntryHi is
the model's choice (log 15; R49, R480). -/
def Obligations.RaiseHasNoOtherEffect : Prop :=
  (∀ (d : Decoded) (s t : State) (e : Exc), execDecoded d s = .next t → s.pending.sync = none → t.pending.sync = some e →
    t = { s with
      pending := { s.pending with sync := some e }
      cop0 := { s.cop0 with badVAddr := t.cop0.badVAddr }
      fcr31 := t.fcr31 } ∧
    (∀ va, e = .addressErrorLoad va ∨ e = .addressErrorStore va → t.cop0.badVAddr = va) ∧
    ((∀ va, e ≠ .addressErrorLoad va ∧ e ≠ .addressErrorStore va) → t.cop0.badVAddr = s.cop0.badVAddr) ∧
    (e = .floatingPoint → Fcr31Kept s.fcr31 t.fcr31 true) ∧ (e ≠ .floatingPoint → t.fcr31 = s.fcr31)) ∧
  (∀ (d : Decoded) (s t : State), execDecoded d s = .next t → s.pending.xtlb = false → t.pending.xtlb = true →
    t = { s with pending := { s.pending with xtlb := true, xtlbStore := t.pending.xtlbStore } })

/-! ## Gates and modes -/

/-- R72, U16: Mode and Op64. That a Step with KSU = 11 and EXL = ERL = 0 stops before its tick, whatever is pending,
is the model's choice (log 14). -/
def Obligations.ModeAndOperatingWidth : Prop :=
  ∀ s : State,
    (s.exl = true ∨ s.erl = true ∨ s.ksu = 0#2 → s.mode? = some .kernel ∧ s.op64? = some true) ∧
    (s.exl = false → s.erl = false → s.ksu = 1#2 → s.mode? = some .supervisor ∧ s.op64? = some s.sx) ∧
    (s.exl = false → s.erl = false → s.ksu = 2#2 → s.mode? = some .user ∧ s.op64? = some s.ux) ∧
    (s.exl = false → s.erl = false → s.ksu = 3#2 → s.mode? = none ∧ s.op64? = none ∧
      step s = .fault .undefinedMode)

/-- R165, R136: the flagged instructions raise ReservedInstruction outside 64-bit operation, before anything else. -/
def Obligations.ReservedIn32BitMode : Prop :=
  (∀ (i : Instr) (s : State), i.reserved32 = true → s.op64? = some false → Raises i s .reservedInstruction) ∧
  (∀ i : Instr, i.reserved32 = true ↔ (encode i &&& 0xFC000000#32 ∈
      [0x60000000#32, 0x64000000#32, 0x68000000#32, 0x6C000000#32, 0x9C000000#32, 0xB0000000#32, 0xB4000000#32,
       0xD0000000#32, 0xDC000000#32, 0xF0000000#32, 0xFC000000#32]) ∨
    (encode i &&& 0xFC000000#32 = 0#32 ∧ (functOf (encode i)).toNat ∈
      [20, 22, 23, 28, 29, 30, 31, 44, 45, 46, 47, 56, 58, 59, 60, 62, 63]) ∨
    (encode i &&& 0xFFE00000#32 ∈ [0x40200000#32, 0x40A00000#32, 0x44200000#32, 0x44A00000#32]))

/-- R166, R176: the coprocessor-usable gates, after the reserved-instruction gate and before everything else. -/
def Obligations.CoprocessorUsableGates : Prop :=
  (∀ (i : Instr) (s : State), i.usesCop1 = true → (i.reserved32 = true → s.op64? = some true) → s.cu1 = false →
    Raises i s (.coprocessorUnusable 1)) ∧
  (∀ (i : Instr) (s : State), i.usesCop0 = true → (i.reserved32 = true → s.op64? = some true) → s.cu0 = false →
    (s.mode? = some .supervisor ∨ s.mode? = some .user) → Raises i s (.coprocessorUnusable 0)) ∧
  (∀ i : Instr, i.usesCop1 = true ↔ opOf (encode i) = 17 ∨ (opOf (encode i)).toNat ∈ [49, 53, 57, 61]) ∧
  (∀ i : Instr, i.usesCop0 = true ↔ opOf (encode i) = 16 ∨ opOf (encode i) = 47) ∧
  (∀ s : State, s.cu1 = false → execDecoded .fpUnimplementedFormat s =
    .next { s with pending := { s.pending with sync := some (.coprocessorUnusable 1) } })

/-- R172, R455 to R458, R173: a control transfer in the delay slot of a taken branch has no meaning once its gate is
passed (that the gate comes first is the model's reading, log 11), and the TLB instructions have none once the
coprocessor-0 gate is passed. -/
def Obligations.StopsWithoutMeaning : Prop :=
  (∀ (i : Instr) (s : State), i.isTransfer = true → s.bu.branchDelayPending = true →
    (i.usesCop1 = true → s.cu1 = true) → (i.usesCop0 = true → Cop0Usable s) →
    exec i s = .refused .controlTransferInDelaySlot) ∧
  (∀ (i : Instr) (s : State), i = .tlbr ∨ i = .tlbwi ∨ i = .tlbwr ∨ i = .tlbp → Cop0Usable s →
    exec i s = .refused .tlbOutsideBlock)

/-- R516, R73: outside kernel mode with CU0 = 0 no instruction changes a coprocessor-0 register, but BadVAddr (an
address error) and LLAddr (LL and LLD). That a load or store that raises or requests a refill, where a `TlbStub` is
supplied, leaves Context, XContext and EntryHi too is the model's choice (log 15; R49, R480). -/
def Obligations.UserModeCannotChangeCoprocessor0 : Prop :=
  ∀ (i : Instr) (s t : State), s.mode? = some .user ∨ s.mode? = some .supervisor → s.cu0 = false →
    exec i s = .next t →
    t.cop0 = { s.cop0 with badVAddr := t.cop0.badVAddr, llAddr := t.cop0.llAddr } ∧ t.mode? = s.mode? ∧
      (t.cop0.llAddr ≠ s.cop0.llAddr →
        (∃ rt base offset, i = .ll rt base offset) ∨ ∃ rt base offset, i = .lld rt base offset)

/-! ## Who may change what -/

/-- R25, R36: HI and LO change only by the multiplies and divides, MTHI and MTLO; the condition flag changes only by the
compares and CTC1. -/
def Obligations.OnlyTheirInstructionsWriteHiLoAndTheConditionFlag : Prop :=
  (∀ (i : Instr) (s t : State), exec i s = .next t → t.hi ≠ s.hi ∨ t.lo ≠ s.lo →
    (∃ rs rt, i = .div rs rt ∨ i = .divu rs rt ∨ i = .ddiv rs rt ∨ i = .ddivu rs rt ∨ i = .mult rs rt ∨
      i = .multu rs rt ∨ i = .dmult rs rt ∨ i = .dmultu rs rt) ∨
    (∃ rs, i = .mthi rs ∧ t.lo = s.lo) ∨ (∃ rs, i = .mtlo rs ∧ t.hi = s.hi)) ∧
  (∀ (i : Instr) (s t : State), exec i s = .next t → t.fcr31.getLsbD 23 ≠ s.fcr31.getLsbD 23 →
    (∃ rt, i = .ctc1 rt 31) ∨
    (opOf (encode i) = 17 ∧ 16 ≤ (rsOf (encode i)).toNat ∧ 48 ≤ (functOf (encode i)).toNat))

/-- R37, R110: LLbit is set by LL and LLD and cleared by ERET; no other instruction, no exception entry, no tick and no
bulk copy changes it. -/
def Obligations.OnlyLinkedLoadsAndEretChangeTheLinkBit : Prop :=
  (∀ (i : Instr) (s t : State), exec i s = .next t → t.llBit ≠ s.llBit →
    (t.llBit = true ∧ ∃ rt base offset, i = .ll rt base offset ∨ i = .lld rt base offset) ∨
    (t.llBit = false ∧ i = .eret)) ∧
  (∀ (s : State) (ev : Event), (s.takeException ev).llBit = s.llBit) ∧ (∀ s : State, s.tick.llBit = s.llBit) ∧
  (∀ (src dst : Word) (n : Nat) (s t : State), bulkCopy src dst n s = .next t → t.llBit = s.llBit)

/-- R40, R41, R43, R6: no instruction writes the snapshot but ERET, which clears it; none writes Inject, the inputs,
the address map, the launch parameters, or a pending request other than the exception it raises and, where a `TlbStub`
is supplied, the XTLB refill that the stub requests. (What a stub requests is the model's choice, log 15.) -/
def Obligations.InstructionsKeepTheHiddenState : Prop :=
  ∀ (d : Decoded) (s t : State), execDecoded d s = .next t →
    (d ≠ .instr .eret → t.snapshot = s.snapshot) ∧ t.inject = s.inject ∧ t.inputs = s.inputs ∧ t.map = s.map ∧
    t.cfg = s.cfg ∧ t.cop0.random = s.cop0.random ∧
    (s.cfg.tlbStub = none → t.pending = { s.pending with sync := t.pending.sync }) ∧
    t.pending = { s.pending with
      sync := t.pending.sync, xtlb := t.pending.xtlb, xtlbStore := t.pending.xtlbStore } ∧
    (s.pending.xtlb = true → t.pending.xtlb = true)

/-- R24, R341, R20, R21: memory changes only by SB, SH, SW, SD, SWL, SWR, SDL, SDR, SC, SCD, SWC1, SDC1; register 0
reads as zero after every instruction, and at most one general register changes. (That a load from a peripheral
changes no memory is the model's choice, log 7.) -/
def Obligations.OnlyStoresChangeMemoryAndOneRegisterAtMost : Prop :=
  (∀ (i : Instr) (s t : State), exec i s = .next t →
    (opOf (encode i)).toNat ∉ [40, 41, 42, 43, 44, 45, 46, 56, 57, 60, 61, 63] →
    t.mem = s.mem ∧ ∀ a, t.byteAt a = s.byteAt a) ∧
  (∀ (d : Decoded) (s t : State), execDecoded d s = .next t →
    t.readReg 0 = 0 ∧ ∃ r : Reg, ∀ q, q ≠ r → t.readReg q = s.readReg q)

/-! ## Integer arithmetic, shifts, comparisons, logic -/

/-- R203, R202, R190 to R201: the adds and subtracts. A trapping form gives the exact sum where it fits and raises
Overflow where it does not; the others wrap. A 32-bit result is sign-extended. -/
def Obligations.IntegerAddSubtract : Prop :=
  (∀ (s : State) (rd rs rt : Reg) (imm : Half),
    TrapsOnOverflow 32 (.add rd rs rt) s rd ((s.readWord rs).toInt + (s.readWord rt).toInt) ∧
    TrapsOnOverflow 32 (.sub rd rs rt) s rd ((s.readWord rs).toInt - (s.readWord rt).toInt) ∧
    TrapsOnOverflow 32 (.addi rt rs imm) s rt ((s.readWord rs).toInt + imm.toInt)) ∧
  (∀ (s : State) (rd rs rt : Reg) (imm : Half), s.op64? = some true →
    TrapsOnOverflow 64 (.dadd rd rs rt) s rd ((s.readReg rs).toInt + (s.readReg rt).toInt) ∧
    TrapsOnOverflow 64 (.dsub rd rs rt) s rd ((s.readReg rs).toInt - (s.readReg rt).toInt) ∧
    TrapsOnOverflow 64 (.daddi rt rs imm) s rt ((s.readReg rs).toInt + imm.toInt)) ∧
  (∀ (s : State) (rd rs rt : Reg) (imm : Half),
    WritesGpr (.addu rd rs rt) s rd
      (fun v => v.toInt = ((s.readWord rs).toInt + (s.readWord rt).toInt).bmod (2 ^ 32)) ∧
    WritesGpr (.subu rd rs rt) s rd
      (fun v => v.toInt = ((s.readWord rs).toInt - (s.readWord rt).toInt).bmod (2 ^ 32)) ∧
    WritesGpr (.addiu rt rs imm) s rt (fun v => v.toInt = ((s.readWord rs).toInt + imm.toInt).bmod (2 ^ 32)) ∧
    (s.op64? = some true →
      WritesGpr (.daddu rd rs rt) s rd
        (fun v => v.toInt = ((s.readReg rs).toInt + (s.readReg rt).toInt).bmod (2 ^ 64)) ∧
      WritesGpr (.dsubu rd rs rt) s rd
        (fun v => v.toInt = ((s.readReg rs).toInt - (s.readReg rt).toInt).bmod (2 ^ 64)) ∧
      WritesGpr (.daddiu rt rs imm) s rt (fun v => v.toInt = ((s.readReg rs).toInt + imm.toInt).bmod (2 ^ 64))))

/-- R214 to R219, R210 to R213: HI and LO hold the two halves of the exact product; a divide by a divisor that is not
zero truncates toward zero, and the one quotient that does not fit wraps. -/
def Obligations.MultiplyIsExactAndDivideTruncates : Prop :=
  (∀ (s : State) (rs rt : Reg),
    WritesHiLo (.mult rs rt) s (fun hi lo => lo = sext64 (trunc32 lo) ∧
      hi.toInt * 2 ^ 32 + (trunc32 lo).toNat = (s.readWord rs).toInt * (s.readWord rt).toInt) ∧
    WritesHiLo (.multu rs rt) s (fun hi lo => hi = sext64 (trunc32 hi) ∧ lo = sext64 (trunc32 lo) ∧
      (trunc32 hi).toNat * 2 ^ 32 + (trunc32 lo).toNat = (s.readWord rs).toNat * (s.readWord rt).toNat) ∧
    (s.op64? = some true →
      WritesHiLo (.dmult rs rt) s (fun hi lo =>
        hi.toInt * 2 ^ 64 + lo.toNat = (s.readReg rs).toInt * (s.readReg rt).toInt) ∧
      WritesHiLo (.dmultu rs rt) s (fun hi lo =>
        hi.toNat * 2 ^ 64 + lo.toNat = (s.readReg rs).toNat * (s.readReg rt).toNat))) ∧
  (∀ (s : State) (rs rt : Reg),
    (s.readWord rt ≠ 0 →
      WritesHiLo (.div rs rt) s (fun hi lo =>
        lo.toInt = ((s.readWord rs).toInt.tdiv (s.readWord rt).toInt).bmod (2 ^ 32) ∧
        hi.toInt = (s.readWord rs).toInt.tmod (s.readWord rt).toInt) ∧
      WritesHiLo (.divu rs rt) s (fun hi lo =>
        lo.toInt = (((s.readWord rs).toNat / (s.readWord rt).toNat : Nat) : Int).bmod (2 ^ 32) ∧
        hi.toInt = (((s.readWord rs).toNat % (s.readWord rt).toNat : Nat) : Int).bmod (2 ^ 32))) ∧
    (s.readReg rt ≠ 0 → s.op64? = some true →
      WritesHiLo (.ddiv rs rt) s (fun hi lo =>
        lo.toInt = ((s.readReg rs).toInt.tdiv (s.readReg rt).toInt).bmod (2 ^ 64) ∧
        hi.toInt = (s.readReg rs).toInt.tmod (s.readReg rt).toInt) ∧
      WritesHiLo (.ddivu rs rt) s (fun hi lo =>
        lo.toNat = (s.readReg rs).toNat / (s.readReg rt).toNat ∧
        hi.toNat = (s.readReg rs).toNat % (s.readReg rt).toNat)))

/-- R220: the values of a divide by zero. -/
def Obligations.DivideByZeroTable : Prop :=
  ∀ (s : State) (rs rt : Reg),
    (s.readWord rt = 0 →
      WritesHiLo (.div rs rt) s (fun hi lo => hi = sext64 (s.readWord rs) ∧
        (0 ≤ (s.readWord rs).toInt → lo = 0xFFFFFFFFFFFFFFFF#64) ∧ ((s.readWord rs).toInt < 0 → lo = 1#64)) ∧
      WritesHiLo (.divu rs rt) s (fun hi lo => hi = sext64 (s.readWord rs) ∧ lo = 0xFFFFFFFFFFFFFFFF#64)) ∧
    (s.readReg rt = 0 → s.op64? = some true →
      WritesHiLo (.ddiv rs rt) s (fun hi lo => hi = s.readReg rs ∧
        (0 ≤ (s.readReg rs).toInt → lo = 0xFFFFFFFFFFFFFFFF#64) ∧ ((s.readReg rs).toInt < 0 → lo = 1#64)) ∧
      WritesHiLo (.ddivu rs rt) s (fun hi lo => hi = s.readReg rs ∧ lo = 0xFFFFFFFFFFFFFFFF#64))

/-- R257, R259, R230 to R244: the 32-bit shifts, with a variable amount of six bits or five, and the 64-bit shifts. -/
def Obligations.ShiftsMoveBits : Prop :=
  (∀ (s : State) (rd rs rt : Reg) (sa : BitVec 5) (n : Nat),
    (s.cfg.vshift32 = .six → n = (s.readReg rs).toNat % 64) →
    (s.cfg.vshift32 = .five → n = (s.readReg rs).toNat % 32) →
    WritesGpr (.sll rd rt sa) s rd
      (fun v => v.toInt = (((s.readWord rt).toNat * 2 ^ sa.toNat : Nat) : Int).bmod (2 ^ 32)) ∧
    WritesGpr (.srl rd rt sa) s rd
      (fun v => v.toInt = (((s.readWord rt).toNat / 2 ^ sa.toNat : Nat) : Int).bmod (2 ^ 32)) ∧
    WritesGpr (.sra rd rt sa) s rd (fun v => v.toInt = (s.readWord rt).toInt / 2 ^ sa.toNat) ∧
    WritesGpr (.sllv rd rt rs) s rd
      (fun v => v.toInt = (((s.readWord rt).toNat * 2 ^ n : Nat) : Int).bmod (2 ^ 32)) ∧
    WritesGpr (.srlv rd rt rs) s rd
      (fun v => v.toInt = (((s.readWord rt).toNat / 2 ^ n : Nat) : Int).bmod (2 ^ 32)) ∧
    WritesGpr (.srav rd rt rs) s rd (fun v => v.toInt = (s.readWord rt).toInt / 2 ^ n)) ∧
  (∀ (s : State) (rd rs rt : Reg) (sa : BitVec 5) (n : Nat), s.op64? = some true →
    n = (s.readReg rs).toNat % 64 →
    WritesGpr (.dsll rd rt sa) s rd (fun v => v.toNat = (s.readReg rt).toNat * 2 ^ sa.toNat % 2 ^ 64) ∧
    WritesGpr (.dsrl rd rt sa) s rd (fun v => v.toNat = (s.readReg rt).toNat / 2 ^ sa.toNat) ∧
    WritesGpr (.dsra rd rt sa) s rd (fun v => v.toInt = (s.readReg rt).toInt / 2 ^ sa.toNat) ∧
    WritesGpr (.dsllv rd rt rs) s rd (fun v => v.toNat = (s.readReg rt).toNat * 2 ^ n % 2 ^ 64) ∧
    WritesGpr (.dsrlv rd rt rs) s rd (fun v => v.toNat = (s.readReg rt).toNat / 2 ^ n) ∧
    WritesGpr (.dsrav rd rt rs) s rd (fun v => v.toInt = (s.readReg rt).toInt / 2 ^ n) ∧
    WritesGpr (.dsll32 rd rt sa) s rd (fun v => v.toNat = (s.readReg rt).toNat * 2 ^ (sa.toNat + 32) % 2 ^ 64) ∧
    WritesGpr (.dsrl32 rd rt sa) s rd (fun v => v.toNat = (s.readReg rt).toNat / 2 ^ (sa.toNat + 32)) ∧
    WritesGpr (.dsra32 rd rt sa) s rd (fun v => v.toInt = (s.readReg rt).toInt / 2 ^ (sa.toNat + 32)))

/-- R258, R245 to R256: set-on-less-than at the operating width `w`, the immediate extended as the parameter says; the
bitwise operations, bit by bit; LUI. -/
def Obligations.SetOnLessThanLogicAndLui : Prop :=
  (∀ (s : State) (rd rs rt : Reg) (imm : Half) (w : Nat) (i : Int),
    (s.op64? = some true ∧ w = 64) ∨ (s.op64? = some false ∧ w = 32) →
    (s.cfg.sltImm = .sign ∧ i = imm.toInt) ∨ (s.cfg.sltImm = .zero ∧ i = imm.toNat) →
    WritesGpr (.slt rd rs rt) s rd (fun v =>
      v = if (s.readReg rs).toInt.bmod (2 ^ w) < (s.readReg rt).toInt.bmod (2 ^ w) then 1 else 0) ∧
    WritesGpr (.sltu rd rs rt) s rd (fun v =>
      v = if (s.readReg rs).toNat % 2 ^ w < (s.readReg rt).toNat % 2 ^ w then 1 else 0) ∧
    WritesGpr (.slti rt rs imm) s rt (fun v => v = if (s.readReg rs).toInt.bmod (2 ^ w) < i then 1 else 0) ∧
    WritesGpr (.sltiu rt rs imm) s rt (fun v =>
      v = if ((s.readReg rs).toNat % 2 ^ w : Nat) < i % (2 ^ w : Int) then 1 else 0)) ∧
  (∀ (s : State) (rd rs rt : Reg) (imm : Half),
    WritesGpr (.and rd rs rt) s rd (fun v => ∀ k, k < 64 →
      v.getLsbD k = ((s.readReg rs).getLsbD k && (s.readReg rt).getLsbD k)) ∧
    WritesGpr (.or rd rs rt) s rd (fun v => ∀ k, k < 64 →
      v.getLsbD k = ((s.readReg rs).getLsbD k || (s.readReg rt).getLsbD k)) ∧
    WritesGpr (.xor rd rs rt) s rd (fun v => ∀ k, k < 64 →
      v.getLsbD k = ((s.readReg rs).getLsbD k != (s.readReg rt).getLsbD k)) ∧
    WritesGpr (.nor rd rs rt) s rd (fun v => ∀ k, k < 64 →
      v.getLsbD k = !((s.readReg rs).getLsbD k || (s.readReg rt).getLsbD k)) ∧
    WritesGpr (.andi rt rs imm) s rt (fun v => ∀ k, k < 64 →
      v.getLsbD k = (decide (k < 16) && (s.readReg rs).getLsbD k && imm.getLsbD k)) ∧
    WritesGpr (.ori rt rs imm) s rt (fun v => ∀ k, k < 64 →
      v.getLsbD k = ((s.readReg rs).getLsbD k || (decide (k < 16) && imm.getLsbD k))) ∧
    WritesGpr (.xori rt rs imm) s rt (fun v => ∀ k, k < 64 →
      v.getLsbD k = ((s.readReg rs).getLsbD k != (decide (k < 16) && imm.getLsbD k))) ∧
    WritesGpr (.lui rt imm) s rt (fun v => v.toInt = imm.toInt * 65536))

/-! ## Transfers -/

/-- R271 to R274: MFHI, MTHI, MFLO, MTLO. -/
def Obligations.HiLoTransfers : Prop :=
  ∀ (s : State) (r : Reg),
    WritesGpr (.mfhi r) s r (fun v => v = s.hi) ∧ WritesGpr (.mflo r) s r (fun v => v = s.lo) ∧
    WritesHiLo (.mthi r) s (fun hi lo => hi = s.readReg r ∧ lo = s.lo) ∧
    WritesHiLo (.mtlo r) s (fun hi lo => lo = s.readReg r ∧ hi = s.hi)

/-- R275, R277, R291, R44 to R71: reading coprocessor 0. Random gives a draw between Wired and 31 (any six-bit value
where Wired is above 31, log 17), the numbers that name no register give any value. -/
def Obligations.Coprocessor0Reads : Prop :=
  ∀ (s : State) (rt n : Reg), Cop0Usable s →
    (∀ v, (n, v) ∈ [((0 : Reg), sext64 s.cop0.index), (2, s.cop0.entryLo0), (3, s.cop0.entryLo1),
        (4, s.cop0.context), (5, sext64 s.cop0.pageMask), (6, sext64 s.cop0.wired), (8, s.cop0.badVAddr),
        (9, sext64 s.cop0.count), (10, s.cop0.entryHi), (11, sext64 s.cop0.compare), (12, sext64 s.cop0.status),
        (13, sext64 s.cop0.cause), (14, s.cop0.epc), (15, zext64 s.cfg.prid), (16, sext64 s.cop0.config),
        (17, sext64 s.cop0.llAddr), (18, sext64 s.cop0.watchLo), (19, sext64 s.cop0.watchHi),
        (20, s.cop0.xContext), (26, sext64 s.cop0.pErr), (27, 0), (28, sext64 s.cop0.tagLo), (29, 0),
        (30, s.cop0.errorEpc)] →
      WritesGpr (.mfc0 rt n) s rt (fun x => x = sext64 (trunc32 v)) ∧
      (s.op64? = some true → WritesGpr (.dmfc0 rt n) s rt (fun x => x = v))) ∧
    (n = 1 →
      WritesDrawnGpr (.mfc0 rt n) s rt (fun x =>
        x.toNat < 64 ∧ (s.cop0.wired.toNat % 64 ≤ 31 → s.cop0.wired.toNat % 64 ≤ x.toNat ∧ x.toNat ≤ 31)) ∧
      (s.op64? = some true → WritesDrawnGpr (.dmfc0 rt n) s rt (fun x =>
        x.toNat < 64 ∧ (s.cop0.wired.toNat % 64 ≤ 31 → s.cop0.wired.toNat % 64 ≤ x.toNat ∧ x.toNat ≤ 31)))) ∧
    (n.toNat ∈ [7, 21, 22, 23, 24, 25, 31] →
      WritesDrawnGpr (.mfc0 rt n) s rt (fun _ => True) ∧
      (s.op64? = some true → WritesDrawnGpr (.dmfc0 rt n) s rt (fun _ => True)))

/-- R285 to R290, R276, R278: writing coprocessor 0. -/
def Obligations.Coprocessor0Writes : Prop :=
  ∀ (s : State) (rt n : Reg), Cop0Usable s →
    WritesC0 (.mtc0 rt n) s n (sext64 (s.readWord rt)) ∧
    (s.op64? = some true → WritesC0 (.dmtc0 rt n) s n (s.readReg rt))

/-- R30 to R32: the views of the floating-point registers, and what a write through one leaves of the cells. -/
def Obligations.FloatingPointRegisterViews : Prop :=
  (∀ (s : State) (i : Reg) (v : Word), s.fr = true →
    s.readFW i = s.fpr[i.toNat].extractLsb' 0 32 ∧ s.doubleOk i = true ∧ s.readFD i = s.fpr[i.toNat] ∧
    (s.writeFW i v).fpr = s.fpr.set i.toNat (s.fpr[i.toNat].extractLsb' 32 32 ++ v)) ∧
  (∀ (s : State) (i e : Reg) (v : Word), s.fr = false → e.getLsbD 0 = false →
    (i = e → s.readFW i = s.fpr[e.toNat].extractLsb' 0 32 ∧ s.doubleOk i = true ∧ s.readFD i = s.fpr[e.toNat] ∧
      (s.writeFW i v).fpr = s.fpr.set e.toNat (s.fpr[e.toNat].extractLsb' 32 32 ++ v)) ∧
    (i = e + 1 → s.readFW i = s.fpr[e.toNat].extractLsb' 32 32 ∧ s.doubleOk i = false ∧
      (s.writeFW i v).fpr = s.fpr.set e.toNat (v ++ s.fpr[e.toNat].extractLsb' 0 32))) ∧
  (∀ (s : State) (i q : Reg) (v : Dword), (s.writeFD i v).readFD q = if q = i then v else s.readFD q)

/-- R279 to R284: the coprocessor-1 transfers. A read of FCR31 and a write to it see every field; numbers 1 to 30 give
any value and ignore writes; a doubleword transfer of an odd register with FR = 0 has no meaning. -/
def Obligations.Coprocessor1Transfers : Prop :=
  ∀ (s : State) (rt fs : Reg), s.cu1 = true →
    WritesGpr (.mfc1 rt fs) s rt (fun v => v = sext64 (s.readFW fs)) ∧
    (∃ t, exec (.mtc1 rt fs) s = .next t ∧ Advanced s t ∧
      t = { s.writeFW fs (s.readWord rt) with pc := t.pc, bu := t.bu }) ∧
    (s.op64? = some true → s.fr = true ∨ fs.getLsbD 0 = false →
      WritesGpr (.dmfc1 rt fs) s rt (fun v => v = s.readFD fs) ∧
      (∃ t, exec (.dmtc1 rt fs) s = .next t ∧ Advanced s t ∧
        t = { s.writeFD fs (s.readReg rt) with pc := t.pc, bu := t.bu })) ∧
    (s.op64? = some true → s.fr = false → fs.getLsbD 0 = true →
      exec (.dmfc1 rt fs) s = .fault .oddDoubleRegister ∧ exec (.dmtc1 rt fs) s = .fault .oddDoubleRegister) ∧
    (fs = 0 → WritesGpr (.cfc1 rt fs) s rt (fun v => v = zext64 s.cfg.fcr0) ∧ OnlyAdvances (.ctc1 rt fs) s) ∧
    (fs = 31 → WritesGpr (.cfc1 rt fs) s rt (fun v => v = sext64 s.fcr31) ∧
      ∃ t, exec (.ctc1 rt fs) s = .next t ∧ Advanced s t ∧ t.fcr31 = s.readWord rt &&& 0x0183FFFF#32 ∧
        t = { s with fcr31 := t.fcr31, pc := t.pc, bu := t.bu }) ∧
    (1 ≤ fs.toNat → fs.toNat ≤ 30 →
      WritesDrawnGpr (.cfc1 rt fs) s rt (fun _ => True) ∧ OnlyAdvances (.ctc1 rt fs) s)

/-! ## Branches and jumps -/

/-- R300, R301, R328, R329, R302 to R321: the conditional branches on general registers and on the condition flag. -/
def Obligations.ConditionalBranches : Prop :=
  (∀ (s : State) (rs rt : Reg) (o : Half), s.bu.branchDelayPending = false →
    Branches (.beq rs rt o) s (s.readReg rs = s.readReg rt) false false o ∧
    Branches (.bne rs rt o) s (s.readReg rs ≠ s.readReg rt) false false o ∧
    Branches (.blez rs o) s ((s.readReg rs).toInt ≤ 0) false false o ∧
    Branches (.bgtz rs o) s (0 < (s.readReg rs).toInt) false false o ∧
    Branches (.bltz rs o) s ((s.readReg rs).toInt < 0) false false o ∧
    Branches (.bgez rs o) s (0 ≤ (s.readReg rs).toInt) false false o ∧
    Branches (.bltzal rs o) s ((s.readReg rs).toInt < 0) false true o ∧
    Branches (.bgezal rs o) s (0 ≤ (s.readReg rs).toInt) false true o ∧
    Branches (.beql rs rt o) s (s.readReg rs = s.readReg rt) true false o ∧
    Branches (.bnel rs rt o) s (s.readReg rs ≠ s.readReg rt) true false o ∧
    Branches (.blezl rs o) s ((s.readReg rs).toInt ≤ 0) true false o ∧
    Branches (.bgtzl rs o) s (0 < (s.readReg rs).toInt) true false o ∧
    Branches (.bltzl rs o) s ((s.readReg rs).toInt < 0) true false o ∧
    Branches (.bgezl rs o) s (0 ≤ (s.readReg rs).toInt) true false o ∧
    Branches (.bltzall rs o) s ((s.readReg rs).toInt < 0) true true o ∧
    Branches (.bgezall rs o) s (0 ≤ (s.readReg rs).toInt) true true o) ∧
  (∀ (s : State) (o : Half), s.bu.branchDelayPending = false → s.cu1 = true →
    Branches (.bc1f o) s (s.fcr31.getLsbD 23 = false) false false o ∧
    Branches (.bc1t o) s (s.fcr31.getLsbD 23 = true) false false o ∧
    Branches (.bc1fl o) s (s.fcr31.getLsbD 23 = false) true false o ∧
    Branches (.bc1tl o) s (s.fcr31.getLsbD 23 = true) true false o)

/-- R322 to R325, R301: the jumps. -/
def Obligations.JumpsSetTheBranchUnit : Prop :=
  ∀ (s : State) (rd rs : Reg) (target : BitVec 26) (t : Dword), s.bu.branchDelayPending = false →
    t = ((s.pc + 4) &&& 0xFFFFFFFFF0000000#64) + BitVec.ofNat 64 (4 * target.toNat) →
    JumpsTo (.j target) s t none ∧ JumpsTo (.jal target) s t (some 31) ∧
    JumpsTo (.jr rs) s (s.readReg rs) none ∧ JumpsTo (.jalr rd rs) s (s.readReg rs) (some rd)

/-! ## Loads and stores -/

/-- R340, R82 to R86, R90, R94: the effective address in the two widths; `Translate` in its two instances, with a
`TlbStub` (its form is the model's, log 31) and without; what a well-formed map resolves an address to; that on such a
map an access inside a window stays inside the Size of its device and a write to one device changes no byte of another
(the model's choice: what it asks of a well-formed map beyond R83 and R87, log 32); what storage, ROM, peripherals and
placeholders hold and take (that a ROM takes nothing is the model's reading, log 6, that a peripheral's write changes
no state its choice, log 7, and so is what lies beyond a Size, log 32); the value of a load from the bytes of the
device, the byte at the lowest address the most significant. -/
def Obligations.AddressesAndByteOrder : Prop :=
  (∀ (base : Dword) (offset : Half),
    (effectiveAddress true base offset).toInt = (base.toInt + offset.toInt).bmod (2 ^ 64) ∧
    (effectiveAddress false base offset).toInt = ((trunc32 base).toInt + offset.toInt).bmod (2 ^ 32)) ∧
  (∀ (cfg : Config) (a : Word),
    (cfg.translate = .identity → translateAddr cfg a = some a) ∧
    (cfg.translate = .kseg → 0x80000000 ≤ a.toNat → a.toNat ≤ 0xBFFFFFFF →
      translateAddr cfg a = some (BitVec.ofNat 32 (a.toNat % 0x20000000))) ∧
    (cfg.translate = .kseg → a.toNat < 0x80000000 ∨ 0xBFFFFFFF < a.toNat →
      (cfg.tlbStub = none → translate cfg a = .outsideBlock) ∧
      (∀ stub, cfg.tlbStub = some stub →
        ((∀ r ∈ stub.ranges, a.toNat < r.base ∨ r.base + r.length ≤ a.toNat) → translate cfg a = .refill stub.miss) ∧
        (∀ before r after, stub.ranges = before ++ r :: after →
          (∀ q ∈ before, a.toNat < q.base ∨ q.base + q.length ≤ a.toNat) →
          r.base ≤ a.toNat → a.toNat < r.base + r.length →
          (∀ kind, r.answer = .refill kind → translate cfg a = .refill kind) ∧
          (∀ frame, r.answer = .mapped frame →
            translateAddr cfg a = some (frame + BitVec.ofNat 32 (a.toNat - r.base))))))) ∧
  (∀ (map : List Window) (pa : Nat), mapWf map = true →
    (∀ w ∈ map, w.base ≤ pa → pa < w.base + w.length → resolve map pa = some (w, pa - w.base)) ∧
    ((∀ w ∈ map, pa < w.base ∨ w.base + w.length ≤ pa) → resolve map pa = none) ∧
    (∀ w off n, resolve map pa = some (w, off) → off + n ≤ w.length → (∀ store capacity, w.device ≠ .ram store capacity) →
      off + n ≤ w.device.size)) ∧
  (∀ (m : Memory) (d : Device) (store size off n : Nat) (v : Dword), m.wf = true → n ≤ 8 →
    let m' := deviceWrite d m off (bigEndianBytes n v)
    (d = .storage store size →
      (∀ j, j < n → off + j < size → deviceByte d m' (off + j) = some (byteOf n v j)) ∧
      (∀ o, o < off ∨ off + n ≤ o → deviceByte d m' o = deviceByte d m o) ∧
      (∀ o, o < size → deviceByte d m o = some (Memory.read m (store + o)))) ∧
    (d = .rom store size → m' = m ∧ ∀ o, o < size → deviceByte d m o = some (Memory.read m (store + o))) ∧
    (d = .peripheral size ∨ d = .placeholder size → m' = m ∧ ∀ o, deviceByte d m o = none)) ∧
  (∀ (map : List Window) (w w' : Window) (m : Memory) (off o : Nat) (bytes : List Byte), mapWf map = true → w ∈ map →
    w' ∈ map → w.device ≠ w'.device → m.wf = true →
    deviceByte w'.device (deviceWrite w.device m off bytes) o = deviceByte w'.device m o) ∧
  (∀ (s : State) (w : Window) (off n : Nat) (b : Nat → Byte), n ≤ 8 →
    (∀ j, j < n → deviceByte w.device s.mem (off + j) = some (b j)) →
    (loadedFrom s w off n).2 = s ∧ (∀ j, j < n → byteOf n (loadedFrom s w off n).1 j = b j) ∧
      (loadedFrom s w off n).1.toNat < 2 ^ (8 * n))

/-- R342 to R348, R365, R366: the aligned loads. LDC1 of an odd register with FR = 0 has no meaning. (What a load from
a peripheral, from a placeholder or beyond a Size gives is a free value, and it changes nothing else: logs 7, 9 and
32.) -/
def Obligations.AlignedLoads : Prop :=
  ∀ (s : State) (rt base : Reg) (o : Half),
    LoadsGpr (.lb rt base o) s 1 rt base o (fun v => sext64 (v.setWidth 8)) ∧
    LoadsGpr (.lbu rt base o) s 1 rt base o (fun v => zext64 (v.setWidth 8)) ∧
    LoadsGpr (.lh rt base o) s 2 rt base o (fun v => sext64 (v.setWidth 16)) ∧
    LoadsGpr (.lhu rt base o) s 2 rt base o (fun v => zext64 (v.setWidth 16)) ∧
    LoadsGpr (.lw rt base o) s 4 rt base o (fun v => sext64 (v.setWidth 32)) ∧
    (s.op64? = some true → LoadsGpr (.lwu rt base o) s 4 rt base o (fun v => zext64 (v.setWidth 32)) ∧
      LoadsGpr (.ld rt base o) s 8 rt base o (fun v => v)) ∧
    (∀ wide w off n, s.cu1 = true → s.op64? = some wide → AlignedFor s (dataAddress s wide base o) n →
      Reaches s (dataAddress s wide base o) n w off →
      (n = 4 → ∃ t, exec (.lwc1 rt base o) s = .next t ∧ Advanced s t ∧
        t = { (loadedFrom s w off n).2.writeFW rt ((loadedFrom s w off n).1.setWidth 32) with
          pc := t.pc, bu := t.bu }) ∧
      (n = 8 → s.fr = true ∨ rt.getLsbD 0 = false → ∃ t, exec (.ldc1 rt base o) s = .next t ∧ Advanced s t ∧
        t = { (loadedFrom s w off n).2.writeFD rt (loadedFrom s w off n).1 with pc := t.pc, bu := t.bu }) ∧
      (n = 8 → s.fr = false → rt.getLsbD 0 = true → exec (.ldc1 rt base o) s = .fault .oddDoubleRegister))

/-- R353 to R356, R367, R368: the aligned stores. SDC1 of an odd register with FR = 0 has no meaning. (What a ROM, a
peripheral or a placeholder takes, and a byte at or beyond a Size, is the model's: logs 6, 7 and 32.) -/
def Obligations.AlignedStores : Prop :=
  ∀ (s : State) (rt base : Reg) (o : Half),
    StoresBytes (.sb rt base o) s 1 (s.readReg rt) base o ∧ StoresBytes (.sh rt base o) s 2 (s.readReg rt) base o ∧
    StoresBytes (.sw rt base o) s 4 (s.readReg rt) base o ∧
    (s.op64? = some true → StoresBytes (.sd rt base o) s 8 (s.readReg rt) base o) ∧
    (s.cu1 = true → StoresBytes (.swc1 rt base o) s 4 (zext64 (s.readFW rt)) base o) ∧
    (s.cu1 = true → s.fr = true ∨ rt.getLsbD 0 = false →
      StoresBytes (.sdc1 rt base o) s 8 (s.readFD rt) base o) ∧
    (∀ wide, s.cu1 = true → s.op64? = some wide → AlignedFor s (dataAddress s wide base o) 8 → s.fr = false →
      rt.getLsbD 0 = true → exec (.sdc1 rt base o) s = .fault .oddDoubleRegister)

/-- R369, R349 to R352, R357 to R360: the unaligned loads and stores, byte by byte. (What a ROM, a peripheral or a
placeholder gives and takes, and a byte at or beyond a Size, is the model's: logs 6, 7, 9 and 32.) -/
def Obligations.UnalignedLoadsAndStores : Prop :=
  (∀ (s : State) (rt base : Reg) (o : Half),
    LoadsMerged (.lwl rt base o) s 4 rt base o (fun n j => if j + n < 4 then some (j + n) else none) ∧
    LoadsMerged (.lwr rt base o) s 4 rt base o (fun n j => if 3 ≤ j + n then some (j + n - 3) else none) ∧
    (s.op64? = some true →
      LoadsMerged (.ldl rt base o) s 8 rt base o (fun n j => if j + n < 8 then some (j + n) else none) ∧
      LoadsMerged (.ldr rt base o) s 8 rt base o (fun n j => if 7 ≤ j + n then some (j + n - 7) else none))) ∧
  (∀ (s : State) (rt base : Reg) (o : Half),
    StoresMerged (.swl rt base o) s 4 rt base o (fun n j => if n ≤ j then some (j - n) else none) ∧
    StoresMerged (.swr rt base o) s 4 rt base o (fun n j => if j ≤ n then some (j + 3 - n) else none) ∧
    (s.op64? = some true →
      StoresMerged (.sdl rt base o) s 8 rt base o (fun n j => if n ≤ j then some (j - n) else none) ∧
      StoresMerged (.sdr rt base o) s 8 rt base o (fun n j => if j ≤ n then some (j + 7 - n) else none)))

/-- R370: a left form at address `A` and the right form at the address of the datum's last byte, in either order, load
the unaligned datum; `m` and `m'` are the aligned data that contain the two addresses (the same one when `n = 0`); SWL
then LWL give back the stored bytes; a left and a right store put the register at the unaligned address. -/
def Obligations.LeftAndRightLoadsMakeTheDatum : Prop :=
  (∀ (m m' r : Word) (n : Nat), n < 4 → (n = 0 → m' = m) →
    let datum := (m <<< (8 * n)) ||| (if n = 0 then 0 else m' >>> (8 * (4 - n)))
    mergeLoadRight m' (mergeLoadLeft m r n) 3 ((n + 3) % 4) = datum ∧
    mergeLoadLeft m (mergeLoadRight m' r 3 ((n + 3) % 4)) n = datum ∧
    mergeLoadLeft (mergeStoreLeft m r 3 n) r n = r ∧
    (∀ q : Word, mergeLoadLeft (mergeStoreLeft m r 3 n) q n = (r &&& ~~~(lowMask _ (8 * n))) ||| (q &&& lowMask _ (8 * n))) ∧
    let a := mergeStoreLeft m r 3 n
    let b := mergeStoreRight (if n = 0 then a else m') r 3 ((n + 3) % 4)
    ((if n = 0 then b else a) <<< (8 * n)) ||| (if n = 0 then 0 else b >>> (8 * (4 - n))) = r) ∧
  (∀ (m m' r : Dword) (n : Nat), n < 8 → (n = 0 → m' = m) →
    let datum := (m <<< (8 * n)) ||| (if n = 0 then 0 else m' >>> (8 * (8 - n)))
    mergeLoadRight m' (mergeLoadLeft m r n) 7 ((n + 7) % 8) = datum ∧
    mergeLoadLeft m (mergeLoadRight m' r 7 ((n + 7) % 8)) n = datum ∧
    mergeLoadLeft (mergeStoreLeft m r 7 n) r n = r ∧
    (∀ q : Dword, mergeLoadLeft (mergeStoreLeft m r 7 n) q n = (r &&& ~~~(lowMask _ (8 * n))) ||| (q &&& lowMask _ (8 * n))) ∧
    let a := mergeStoreLeft m r 7 n
    let b := mergeStoreRight (if n = 0 then a else m') r 7 ((n + 7) % 8)
    ((if n = 0 then b else a) <<< (8 * n)) ||| (if n = 0 then 0 else b >>> (8 * (8 - n))) = r)

/-- R361 to R364: the linked loads and the conditional stores. (What a ROM, a peripheral or a placeholder gives and
takes, and a byte at or beyond a Size, is the model's: logs 6, 7, 9 and 32.) -/
def Obligations.LinkedLoadsAndConditionalStores : Prop :=
  (∀ (s : State) (rt base : Reg) (o : Half) (n : Nat) (i : Instr) (wide : Bool) (w : Window) (off : Nat) (pa : Word),
    (n = 4 ∧ i = .ll rt base o) ∨ (n = 8 ∧ i = .lld rt base o ∧ s.op64? = some true) → s.op64? = some wide →
    AlignedFor s (dataAddress s wide base o) n → Reaches s (dataAddress s wide base o) n w off →
    translateAddr s.cfg (trunc32 (dataAddress s wide base o)) = some pa →
    ∃ t, exec i s = .next t ∧ Advanced s t ∧
      GprWritten s t rt (if n = 4 then sext64 (trunc32 (loadedFrom s w off n).1) else (loadedFrom s w off n).1) ∧
      t.llBit = true ∧ t.cop0.llAddr.toNat = pa.toNat / 16 ∧
      t = { (loadedFrom s w off n).2 with
        gpr := t.gpr, pc := t.pc, bu := t.bu, llBit := t.llBit
        cop0 := { s.cop0 with llAddr := t.cop0.llAddr } }) ∧
  (∀ (s : State) (rt base : Reg) (o : Half) (n : Nat) (i : Instr) (wide : Bool),
    (n = 4 ∧ i = .sc rt base o) ∨ (n = 8 ∧ i = .scd rt base o ∧ s.op64? = some true) → s.op64? = some wide →
    AlignedFor s (dataAddress s wide base o) n →
    (s.llBit = false → WritesGpr i s rt (fun v => v = 0)) ∧
    (∀ w off, s.llBit = true → s.mem.wf = true → Reaches s (dataAddress s wide base o) n w off →
      ∃ t, exec i s = .next t ∧ Advanced s t ∧ GprWritten s t rt 1 ∧
        t = { s with mem := t.mem, gpr := t.gpr, pc := t.pc, bu := t.bu } ∧
        Stored s.mem t.mem w.device off n (s.readReg rt) ∧ OtherBytesKept s t w.device off n))

/-- R96, R97: a misaligned load or store raises the address error with its address, whatever the mode and LLbit, once
the gates are passed; coprocessor 1 must be usable for its own loads and stores alone, and the register's number never
matters (for SDC1 of an odd register with FR = 0 that the address comes first is the model's reading, log 13). -/
def Obligations.MisalignedAccessesRaise : Prop :=
  ∀ (s : State) (rt base : Reg) (o : Half) (n : Nat) (wide : Bool), s.cfg.misaligned = .trap → s.op64? = some wide →
    (dataAddress s wide base o).toNat % n ≠ 0 →
    let load (i : Instr) := RaisesAt i s (.addressErrorLoad (dataAddress s wide base o)) (dataAddress s wide base o)
    let store (i : Instr) := RaisesAt i s (.addressErrorStore (dataAddress s wide base o)) (dataAddress s wide base o)
    (∀ i, (n, i) ∈ [(2, Instr.lh rt base o), (2, .lhu rt base o), (4, .lw rt base o), (4, .ll rt base o)] → load i) ∧
    (∀ i, (n, i) ∈ [(2, Instr.sh rt base o), (4, .sw rt base o), (4, .sc rt base o)] → store i) ∧
    (wide = true →
      (∀ i, (n, i) ∈ [(4, Instr.lwu rt base o), (8, .ld rt base o), (8, .lld rt base o)] → load i) ∧
      (∀ i, (n, i) ∈ [(8, Instr.sd rt base o), (8, .scd rt base o)] → store i)) ∧
    (s.cu1 = true →
      (∀ i, (n, i) ∈ [(4, Instr.lwc1 rt base o), (8, .ldc1 rt base o)] → load i) ∧
      (∀ i, (n, i) ∈ [(4, Instr.swc1 rt base o), (8, .sdc1 rt base o)] → store i))

/-- R113, R89, R82, R484: a load or store that reaches no device, once the gates and the alignment rule are passed,
raises BusErrorData and has no other effect; one whose address has no translation is refused, or raises or requests
the refill of the `TlbStub` where one is supplied (what a stub records is the model's choice, log 15). Coprocessor 1
must be usable for its own loads and stores alone; the view of an odd register matters to SDC1 alone, which looks at
it first (log 13). -/
def Obligations.AccessesWithoutDeviceRaise : Prop :=
  ∀ (s : State) (rt base : Reg) (o : Half) (n : Nat) (wide : Bool), s.op64? = some wide →
    let va := dataAddress s wide base o
    let datum := va - BitVec.ofNat 64 (va.toNat % n)
    (AlignedFor s va n →
      (∀ i, (n, i) ∈ [(1, Instr.lb rt base o), (1, .lbu rt base o), (2, .lh rt base o), (2, .lhu rt base o),
          (4, .lw rt base o), (4, .ll rt base o)] → FailsAt i s va n false) ∧
      (∀ i, (n, i) ∈ [(1, Instr.sb rt base o), (2, .sh rt base o), (4, .sw rt base o)] → FailsAt i s va n true) ∧
      (s.llBit = true → n = 4 → FailsAt (.sc rt base o) s va n true) ∧
      (wide = true →
        (∀ i, (n, i) ∈ [(4, Instr.lwu rt base o), (8, .ld rt base o), (8, .lld rt base o)] → FailsAt i s va n false) ∧
        (n = 8 → FailsAt (.sd rt base o) s va n true ∧ (s.llBit = true → FailsAt (.scd rt base o) s va n true))) ∧
      (s.cu1 = true →
        (∀ i, (n, i) ∈ [(4, Instr.lwc1 rt base o), (8, .ldc1 rt base o)] → FailsAt i s va n false) ∧
        (n = 4 → FailsAt (.swc1 rt base o) s va n true) ∧
        (n = 8 → s.fr = true ∨ rt.getLsbD 0 = false → FailsAt (.sdc1 rt base o) s va n true))) ∧
    (∀ i, (n, i) ∈ [(4, Instr.lwl rt base o), (4, .lwr rt base o)] → FailsAt i s datum n false) ∧
    (∀ i, (n, i) ∈ [(4, Instr.swl rt base o), (4, .swr rt base o)] → FailsAt i s datum n true) ∧
    (wide = true →
      (∀ i, (n, i) ∈ [(8, Instr.ldl rt base o), (8, .ldr rt base o)] → FailsAt i s datum n false) ∧
      (∀ i, (n, i) ∈ [(8, Instr.sdl rt base o), (8, .sdr rt base o)] → FailsAt i s datum n true))

/-- R87, R105: a byte at or beyond the capacity of RAM reads as a value of its offset alone and no store changes it, a
byte below it holds what the store put there; a bulk copy of one granule moves four bytes and changes nothing else, a
longer one goes on with the next granule, and a length that is no multiple of four has no meaning (D39). (What devices
other than RAM give and take is the model's, logs 6, 7, 9 and 32.) -/
def Obligations.RamCapacityAndBulkCopy : Prop :=
  (∀ (m : Memory) (store capacity off n : Nat) (v : Dword), m.wf = true → n ≤ 8 →
    let d := Device.ram store capacity
    let m' := deviceWrite d m off (bigEndianBytes n v)
    m'.wf = true ∧
    (∀ o, capacity ≤ o → deviceByte d m' o = deviceByte d m o ∧ ∀ m'', deviceByte d m'' o = deviceByte d m o) ∧
    (∀ j, j < n → off + j < capacity → deviceByte d m' (off + j) = some (byteOf n v j)) ∧
    (∀ o, o < off ∨ off + n ≤ o → deviceByte d m' o = deviceByte d m o)) ∧
  ((∀ (src dst : Word) (n : Nat) (s : State), n % 4 ≠ 0 → bulkCopy src dst n s = .refused .bulkCopyLength) ∧
  (∀ (src dst : Word) (s : State), bulkCopy src dst 0 s = .next s) ∧
  (∀ (src dst : Word) (s t : State), s.mem.wf = true → bulkCopy src dst 4 s = .next t →
    ∃ w off w' off', resolve s.map src.toNat = some (w, off) ∧ resolve s.map dst.toNat = some (w', off') ∧
      t = { (loadedFrom s w off 4).2 with mem := t.mem } ∧
      Stored s.mem t.mem w'.device off' 4 (loadedFrom s w off 4).1) ∧
  (∀ (src dst : Word) (s : State) (w w' : Window) (off off' : Nat), resolve s.map src.toNat = some (w, off) →
    off + 4 ≤ w.length → resolve s.map dst.toNat = some (w', off') → off' + 4 ≤ w'.length →
    ∃ t, bulkCopy src dst 4 s = .next t) ∧
  (∀ (src dst : Word) (k : Nat) (s t : State), bulkCopy src dst 4 s = .next t →
    bulkCopy src dst (4 * k + 4) s = bulkCopy (src + 4) (dst + 4) (4 * k) t))

/-! ## Floating point -/

/-- R392, R394 to R398: the arithmetic of both formats follows the common sequence. A format D operation on an odd
register with FR = 0 stops (R32, U13; log 13). -/
def Obligations.ArithmeticFollowsTheSequence : Prop :=
  ∀ (s : State) (fd fs ft : Reg) (nu : Numerics) (fl : Bool) (rm : Rounding), nu = s.cfg.numerics →
    fl = s.fcr31.getLsbD 24 → rm = Rounding.ofField (s.fcr31.extractLsb' 0 2) →
    let S := FloatFormat.single
    let D := FloatFormat.double
    ComputesBinary (.addS fd fs ft) s S .word fd fs ft (S.add nu fl rm false) ∧
    ComputesBinary (.addD fd fs ft) s D .dword fd fs ft (D.add nu fl rm false) ∧
    ComputesBinary (.subS fd fs ft) s S .word fd fs ft (S.add nu fl rm true) ∧
    ComputesBinary (.subD fd fs ft) s D .dword fd fs ft (D.add nu fl rm true) ∧
    ComputesBinary (.mulS fd fs ft) s S .word fd fs ft (S.mul nu fl rm) ∧
    ComputesBinary (.mulD fd fs ft) s D .dword fd fs ft (D.mul nu fl rm) ∧
    ComputesBinary (.divS fd fs ft) s S .word fd fs ft (S.div nu fl rm) ∧
    ComputesBinary (.divD fd fs ft) s D .dword fd fs ft (D.div nu fl rm) ∧
    ComputesUnary (.sqrtS fd fs) s .word S .word fd fs (S.sqrt nu fl rm) ∧
    ComputesUnary (.sqrtD fd fs) s .dword D .dword fd fs (D.sqrt nu fl rm)

/-- R399 to R401: ABS and NEG change the sign bit of a number that is no NaN and signal nothing, and of a NaN as
`absNegOnNaN` says; MOV copies bits and leaves FCR31 alone. A format D operation on an odd register with FR = 0 stops
(R32, U13; log 13). (That ABS and NEG do so to a denormalised operand under `denormal = unimplemented` is the model's,
log 19.) -/
def Obligations.SignOperationsAndMoves : Prop :=
  ∀ (s : State) (fd fs : Reg) (S D : Dword → Dword → FpOut),
    (∀ a b, S a b =
      if FloatFormat.single.isNaN a = false ∨ s.cfg.numerics.absNegOnNaN = .signBit then .result b 0
      else .result (zext64 s.cfg.numerics.defaultNaN32) Signals.invalid) →
    (∀ a b, D a b =
      if FloatFormat.double.isNaN a = false ∨ s.cfg.numerics.absNegOnNaN = .signBit then .result b 0
      else .result s.cfg.numerics.defaultNaN64 Signals.invalid) →
    ComputesUnary (.absS fd fs) s .word FloatFormat.single .word fd fs (fun a => S a (a &&& 0x7FFFFFFF#64)) ∧
    ComputesUnary (.negS fd fs) s .word FloatFormat.single .word fd fs (fun a => S a (a ^^^ 0x80000000#64)) ∧
    ComputesUnary (.absD fd fs) s .dword FloatFormat.double .dword fd fs
      (fun a => D a (a &&& 0x7FFFFFFFFFFFFFFF#64)) ∧
    ComputesUnary (.negD fd fs) s .dword FloatFormat.double .dword fd fs
      (fun a => D a (a ^^^ 0x8000000000000000#64)) ∧
    (s.cu1 = true →
      (∃ t, exec (.movS fd fs) s = .next t ∧ Advanced s t ∧
        t = { s.writeFW fd (s.readFW fs) with pc := t.pc, bu := t.bu }) ∧
      (ViewExists s .dword fd → ViewExists s .dword fs →
        ∃ t, exec (.movD fd fs) s = .next t ∧ Advanced s t ∧
          t = { s.writeFD fd (s.readFD fs) with pc := t.pc, bu := t.bu }) ∧
      (¬ViewExists s .dword fd ∨ ¬ViewExists s .dword fs → StopsOnOddView (.movD fd fs) s))

/-- R402 to R413, R431: the conversions follow the common sequence, with the rounding mode of their name or of FCR31.
A view of an odd register that does not exist stops the conversion (R32, U13; log 13). -/
def Obligations.ConversionsFollowTheSequence : Prop :=
  ∀ (s : State) (fd fs : Reg) (nu : Numerics) (fl : Bool) (rm : Rounding), nu = s.cfg.numerics →
    fl = s.fcr31.getLsbD 24 → rm = Rounding.ofField (s.fcr31.extractLsb' 0 2) →
    let S := FloatFormat.single
    let D := FloatFormat.double
    (∀ mode i j, (mode, i, j) ∈ [(Rounding.nearest, Instr.roundLS fd fs, Instr.roundLD fd fs),
        (.zero, .truncLS fd fs, .truncLD fd fs), (.up, .ceilLS fd fs, .ceilLD fd fs),
        (.down, .floorLS fd fs, .floorLD fd fs), (rm, .cvtLS fd fs, .cvtLD fd fs)] →
      ComputesUnary i s .word S .dword fd fs (S.toInteger nu 64 mode) ∧
      ComputesUnary j s .dword D .dword fd fs (D.toInteger nu 64 mode)) ∧
    (∀ mode i j, (mode, i, j) ∈ [(Rounding.nearest, Instr.roundWS fd fs, Instr.roundWD fd fs),
        (.zero, .truncWS fd fs, .truncWD fd fs), (.up, .ceilWS fd fs, .ceilWD fd fs),
        (.down, .floorWS fd fs, .floorWD fd fs), (rm, .cvtWS fd fs, .cvtWD fd fs)] →
      ComputesUnary i s .word S .word fd fs (S.toInteger nu 32 mode) ∧
      ComputesUnary j s .dword D .word fd fs (D.toInteger nu 32 mode)) ∧
    ComputesUnary (.cvtSD fd fs) s .dword S .word fd fs (D.convert S nu fl rm) ∧
    ComputesUnary (.cvtDS fd fs) s .word D .dword fd fs (S.convert D nu fl rm) ∧
    ComputesUnary (.cvtSW fd fs) s .word S .word fd fs (fun a => S.ofInt nu fl rm (trunc32 a).toInt) ∧
    ComputesUnary (.cvtDW fd fs) s .word D .dword fd fs (fun a => D.ofInt nu fl rm (trunc32 a).toInt) ∧
    ComputesUnary (.cvtSL fd fs) s .dword S .word fd fs (fun a => S.ofInt nu fl rm a.toInt) ∧
    ComputesUnary (.cvtDL fd fs) s .dword D .dword fd fs (fun a => D.ofInt nu fl rm a.toInt)

/-- R392: with every trap disabled and gradual underflow, every floating-point operation completes, or stops on the
doubleword view of an odd register (R32, U13); with FR = 1, or with even register numbers, it completes. -/
def Obligations.UntrappedFloatingPointCompletes : Prop :=
  ∀ (i : Instr) (s : State), opOf (encode i) = 17 → 16 ≤ (rsOf (encode i)).toNat → s.cu1 = true →
    enableField s.fcr31 = 0 → s.cfg.numerics.denormal = .gradual →
    let completes := ∃ t, exec i s = .next t ∧ Advanced s t ∧ t.pending = s.pending ∧ t.gpr = s.gpr ∧ t.mem = s.mem ∧
      t.cop0 = s.cop0
    (completes ∨ StopsOnOddView i s) ∧
    (s.fr = true ∨ ((rtOf (encode i)).getLsbD 0 = false ∧ (rdOf (encode i)).getLsbD 0 = false ∧
      (saOf (encode i)).getLsbD 0 = false) → completes)

/-- R393, R394 to R398, R410, R411: the invalid operations, the division by zero, and the operations on a NaN. Under
`denormal = unimplemented`, where the other operand of ADD, SUB, MUL or DIV is denormalised, that the NaN decides is
the model's choice, which R393 leaves open (log 33). -/
def Obligations.InvalidOperationsAndDivisionByZero : Prop :=
  ∀ (f : FloatFormat) (nu : Numerics) (fl : Bool) (rm : Rounding) (a b : Dword) (n : Bool) (m : Nat) (e : Int),
    f = FloatFormat.single ∨ f = FloatFormat.double →
    (∀ x y, f.value a = .inf x → f.value b = .inf y →
      (x ≠ y → f.add nu fl rm false a b = .result (f.defaultNaN nu) 0x10#5) ∧
      (x = y → f.add nu fl rm true a b = .result (f.defaultNaN nu) 0x10#5) ∧
      f.div nu fl rm a b = .result (f.defaultNaN nu) 0x10#5) ∧
    (∀ x, f.value a = .inf x → f.value b = .finite n 0 e →
      f.mul nu fl rm a b = .result (f.defaultNaN nu) 0x10#5 ∧
      f.mul nu fl rm b a = .result (f.defaultNaN nu) 0x10#5) ∧
    (f.value b = .finite n 0 e →
      (∀ n' e', f.value a = .finite n' 0 e' → f.div nu fl rm a b = .result (f.defaultNaN nu) 0x10#5) ∧
      (∀ n' e', f.value a = .finite n' m e' → m ≠ 0 → nu.denormal = .gradual →
        f.div nu fl rm a b = .result (f.infinity (n' != n)) 0x08#5)) ∧
    (∀ e', f.value a = .finite true m e' → m ≠ 0 → nu.denormal = .gradual →
      f.sqrt nu fl rm a = .result (f.defaultNaN nu) 0x10#5) ∧
    (f.value a = .finite true 0 e → f.sqrt nu fl rm a = .result (f.zero true) 0) ∧
    (f.value a = .inf true → f.sqrt nu fl rm a = .result (f.defaultNaN nu) 0x10#5) ∧
    (∀ op, op ∈ [f.add nu fl rm false, f.add nu fl rm true, f.mul nu fl rm, f.div nu fl rm] →
      (f.isSignaling nu.nan a = true ∨ f.isSignaling nu.nan b = true → op a b = .result (f.defaultNaN nu) 0x10#5) ∧
      (f.isNaN a = true ∨ f.isNaN b = true → f.isSignaling nu.nan a = false → f.isSignaling nu.nan b = false →
        op a b = .propagateNaN)) ∧
    (∀ (g : FloatFormat) (op : Dword → FpOut), (op = f.sqrt nu fl rm ∧ g = f) ∨ op = f.convert g nu fl rm →
      (f.isSignaling nu.nan a = true → op a = .result (g.defaultNaN nu) 0x10#5) ∧
      (f.isNaN a = true → f.isSignaling nu.nan a = false → op a = .propagateNaN)) ∧
    ((FloatFormat.single.defaultNaN nu).toNat = nu.defaultNaN32.toNat ∧
      FloatFormat.double.defaultNaN nu = nu.defaultNaN64)

/-- R393: rounding to an integer multiple is what the four modes of IEEE 754 say, and a loss is reported exactly when
there is one. -/
def Obligations.RoundingModes : Prop :=
  ∀ (neg : Bool) (m k r : Nat) (lost : Bool) (rm : Rounding), roundShift rm neg m k = (r, lost) →
    (lost = true ↔ m % 2 ^ k ≠ 0) ∧ (lost = false → r * 2 ^ k = m) ∧
    (m < (r + 1) * 2 ^ k ∧ r * 2 ^ k < m + 2 ^ k) ∧
    (rm = .nearest → 2 * (r * 2 ^ k) ≤ 2 * m + 2 ^ k ∧ 2 * m ≤ 2 * (r * 2 ^ k) + 2 ^ k ∧
      (2 * (r * 2 ^ k) = 2 * m + 2 ^ k ∨ 2 * m = 2 * (r * 2 ^ k) + 2 ^ k → k ≠ 0 → r % 2 = 0)) ∧
    (rm = .zero → r * 2 ^ k ≤ m) ∧
    (rm = .up → (neg = true → r * 2 ^ k ≤ m) ∧ (neg = false → m ≤ r * 2 ^ k)) ∧
    (rm = .down → (neg = true → m ≤ r * 2 ^ k) ∧ (neg = false → r * 2 ^ k ≤ m))

/-- R393, R394 to R398, R410, R411: every operation on numbers, with an exact result that is not zero, delivers what the
rounding mode chooses for that result, and signals I, U and O as IEEE 754 defines them, U under either detection of
tininess. `round` is the rounding of `± m · 2^e` itself. -/
def Obligations.InexactResultsAreRounded : Prop :=
  ∀ (f g : FloatFormat) (nu : Numerics) (fl : Bool) (rm : Rounding), f = FloatFormat.single ∨ f = FloatFormat.double →
    g = FloatFormat.single ∨ g = FloatFormat.double → nu.denormal = .gradual →
    (∀ (neg : Bool) (m : Nat) (e : Int), m ≠ 0 →
      Delivers f nu rm neg ((m : ℝ) * (2 : ℝ) ^ e) (f.round nu fl rm neg m e)) ∧
    (∀ (a b : Dword) (x y : ℚ), f.rational a = some x → f.rational b = some y →
      (x + y ≠ 0 → Delivers f nu rm (decide (x + y < 0)) (abs (x + y) : ℚ) (f.add nu fl rm false a b)) ∧
      (x - y ≠ 0 → Delivers f nu rm (decide (x - y < 0)) (abs (x - y) : ℚ) (f.add nu fl rm true a b)) ∧
      (x * y ≠ 0 → Delivers f nu rm (decide (x * y < 0)) (abs (x * y) : ℚ) (f.mul nu fl rm a b)) ∧
      (x / y ≠ 0 → Delivers f nu rm (decide (x / y < 0)) (abs (x / y) : ℚ) (f.div nu fl rm a b))) ∧
    (∀ (a : Dword) (x : ℚ), f.rational a = some x → 0 < x →
      Delivers f nu rm false (Real.sqrt (x : ℝ)) (f.sqrt nu fl rm a)) ∧
    (∀ (a : Dword) (x : ℚ), g.rational a = some x → x ≠ 0 →
      Delivers f nu rm (decide (x < 0)) (abs x : ℚ) (g.convert f nu fl rm a)) ∧
    (∀ i : Int, i ≠ 0 → Delivers f nu rm (decide (i < 0)) (abs i : ℤ) (f.ofInt nu fl rm i))

/-- R393, R394 to R398, R410, R411: a number of the format is its own rounding; an operation whose exact result is a
number of the format gives that number, in every rounding mode, and signals nothing: a result that is not zero, an
infinite one, of one infinite operand or of two, and a zero with the sign that IEEE 754 gives it. -/
def Obligations.ExactResultsAreDelivered : Prop :=
  (∀ (f : FloatFormat) (b : Dword) (nu : Numerics) (fl : Bool) (rm : Rounding) (neg : Bool) (m : Nat) (e : Int),
    f = FloatFormat.single ∨ f = FloatFormat.double → b.toNat < 2 ^ (f.expBits + f.fracBits + 1) →
    nu.denormal = .gradual → f.value b = .finite neg m e → f.round nu fl rm neg m e = .result b 0) ∧
  (∀ (f g : FloatFormat) (nu : Numerics) (fl : Bool) (rm : Rounding) (a b c : Dword) (x y z : ℚ),
    f = FloatFormat.single ∨ f = FloatFormat.double → nu.denormal = .gradual → f.rational a = some x →
    f.rational c = some z → z ≠ 0 → c.toNat < 2 ^ (f.expBits + f.fracBits + 1) →
    (f.rational b = some y →
      (x + y = z → f.add nu fl rm false a b = .result c 0) ∧ (x - y = z → f.add nu fl rm true a b = .result c 0) ∧
      (x * y = z → f.mul nu fl rm a b = .result c 0) ∧
      (y ≠ 0 → x / y = z → f.div nu fl rm a b = .result c 0)) ∧
    (0 < z → x = z * z → f.sqrt nu fl rm a = .result c 0) ∧
    (g = FloatFormat.single ∨ g = FloatFormat.double → ∀ d, g.rational d = some z →
      g.convert f nu fl rm d = .result c 0) ∧
    (∀ i : Int, (i : ℚ) = z → f.ofInt nu fl rm i = .result c 0)) ∧
  (∀ (f g : FloatFormat) (nu : Numerics) (fl : Bool) (rm : Rounding) (a b : Dword) (x y : ℚ),
    f = FloatFormat.single ∨ f = FloatFormat.double → nu.denormal = .gradual → f.rational a = some x →
    (f.rational b = some y →
      (x + y = 0 → f.add nu fl rm false a b =
        .result (f.zero (if f.signOf a = f.signOf b then f.signOf a else decide (rm = .down))) 0) ∧
      (x - y = 0 → f.add nu fl rm true a b =
        .result (f.zero (if f.signOf a ≠ f.signOf b then f.signOf a else decide (rm = .down))) 0) ∧
      (x * y = 0 → f.mul nu fl rm a b = .result (f.zero (f.signOf a != f.signOf b)) 0) ∧
      (x = 0 → y ≠ 0 → f.div nu fl rm a b = .result (f.zero (f.signOf a != f.signOf b)) 0)) ∧
    (x = 0 → f.sqrt nu fl rm a = .result (f.zero (f.signOf a)) 0 ∧
      f.convert g nu fl rm a = .result (g.zero (f.signOf a)) 0) ∧
    f.ofInt nu fl rm 0 = .result (f.zero false) 0 ∧
    (∀ n, f.value b = .inf n →
      f.add nu fl rm false a b = .result (f.infinity n) 0 ∧ f.add nu fl rm false b a = .result (f.infinity n) 0 ∧
      f.add nu fl rm true a b = .result (f.infinity !n) 0 ∧ f.add nu fl rm true b a = .result (f.infinity n) 0 ∧
      (x ≠ 0 → f.mul nu fl rm a b = .result (f.infinity (f.signOf a != n)) 0 ∧
        f.mul nu fl rm b a = .result (f.infinity (f.signOf a != n)) 0) ∧
      f.div nu fl rm a b = .result (f.zero (f.signOf a != n)) 0 ∧
      f.div nu fl rm b a = .result (f.infinity (f.signOf a != n)) 0 ∧
      f.convert g nu fl rm b = .result (g.infinity n) 0 ∧
      (n = false → f.sqrt nu fl rm b = .result (f.infinity false) 0))) ∧
  (∀ (f : FloatFormat) (nu : Numerics) (fl : Bool) (rm : Rounding) (a b : Dword) (m n : Bool),
    f = FloatFormat.single ∨ f = FloatFormat.double → f.value a = .inf m → f.value b = .inf n →
    (m = n → f.add nu fl rm false a b = .result (f.infinity m) 0) ∧
    (m ≠ n → f.add nu fl rm true a b = .result (f.infinity m) 0) ∧
    f.mul nu fl rm a b = .result (f.infinity (m != n)) 0)

/-- R432: conversion to an integer. -/
def Obligations.ConversionToAnInteger : Prop :=
  ∀ (f : FloatFormat) (nu : Numerics) (n : Nat) (rm : Rounding) (a : Dword), n = 32 ∨ n = 64 →
    nu.denormal = .gradual →
    let invalid := FpOut.result (if n = 32 then zext64 nu.intOverflow32 else nu.intOverflow64) 0x10#5
    (f.value a = .nan ∨ (∃ x, f.value a = .inf x) → f.toInteger nu n rm a = invalid) ∧
    (∀ neg m e, f.value a = .finite neg m e → ∃ (r : Nat) (lost : Bool) (i : Int),
      roundToQuantum rm neg m e 0 = (r, lost) ∧ i = (if neg then -(r : Int) else r) ∧
      (i < -(2 ^ (n - 1)) ∨ 2 ^ (n - 1) - 1 < i → f.toInteger nu n rm a = invalid) ∧
      (-(2 ^ (n - 1)) ≤ i ∧ i ≤ 2 ^ (n - 1) - 1 → ∃ bits, (bits : Dword).toNat = (i % (2 ^ n : Int)).toNat ∧
        f.toInteger nu n rm a = .result bits (if lost then 0x01#5 else 0#5)))

/-- R414 to R430: the thirty-two compares, with the stop of a format D compare of an odd register with FR = 0 (R32,
U13; log 13). Less and equal are the order of the numbers the operands stand for, with minus infinity below and plus
infinity above every number and the two zeros equal; of two operands that are no NaN exactly one of less, equal and
greater holds, a NaN is none of them, and less is transitive. (That a compare takes denormalised operands as numbers
under `denormal = unimplemented` is the model's, log 19.) -/
def Obligations.ComparesSetTheConditionFlag : Prop :=
  (∀ (s : State) (fs ft : Reg) (c : Nat) (i j : Instr), s.cu1 = true →
    (c, i, j) ∈ [(0, Instr.cFS fs ft, Instr.cFD fs ft), (1, .cUnS fs ft, .cUnD fs ft), (2, .cEqS fs ft, .cEqD fs ft),
      (3, .cUeqS fs ft, .cUeqD fs ft), (4, .cOltS fs ft, .cOltD fs ft), (5, .cUltS fs ft, .cUltD fs ft),
      (6, .cOleS fs ft, .cOleD fs ft), (7, .cUleS fs ft, .cUleD fs ft), (8, .cSfS fs ft, .cSfD fs ft),
      (9, .cNgleS fs ft, .cNgleD fs ft), (10, .cSeqS fs ft, .cSeqD fs ft), (11, .cNglS fs ft, .cNglD fs ft),
      (12, .cLtS fs ft, .cLtD fs ft), (13, .cNgeS fs ft, .cNgeD fs ft), (14, .cLeS fs ft, .cLeD fs ft),
      (15, .cNgtS fs ft, .cNgtD fs ft)] →
    Compares i s FloatFormat.single (BitVec.ofNat 4 c) (s.readView .word fs) (s.readView .word ft) ∧
    (ViewExists s .dword fs → ViewExists s .dword ft →
      Compares j s FloatFormat.double (BitVec.ofNat 4 c) (s.readFD fs) (s.readFD ft)) ∧
    (¬ViewExists s .dword fs ∨ ¬ViewExists s .dword ft → StopsOnOddView j s)) ∧
  (∀ (f : FloatFormat) (a b : Dword) (x : ℚ) (n : Bool), f = FloatFormat.single ∨ f = FloatFormat.double →
    (f.rational a = some x →
      (∀ y, f.rational b = some y → (f.less a b = true ↔ x < y) ∧ (f.equal a b = true ↔ x = y)) ∧
      (f.value b = .inf n →
        f.less a b = !n ∧ f.less b a = n ∧ f.equal a b = false ∧ f.equal b a = false)) ∧
    (∀ m, f.value a = .inf m → f.value b = .inf n →
      (f.less a b = true ↔ m = true ∧ n = false) ∧ (f.equal a b = true ↔ m = n)) ∧
    f.equal (f.zero true) (f.zero false) = true ∧ f.less (f.zero true) (f.zero false) = false) ∧
  (∀ (f : FloatFormat) (a b c : Dword), f = FloatFormat.single ∨ f = FloatFormat.double →
    (f.isNaN a = false → f.isNaN b = false →
      (f.less a b = true ∧ f.equal a b = false ∧ f.less b a = false) ∨
      (f.less a b = false ∧ f.equal a b = true ∧ f.less b a = false) ∨
      (f.less a b = false ∧ f.equal a b = false ∧ f.less b a = true)) ∧
    (f.isNaN a = true ∨ f.isNaN b = true → f.less a b = false ∧ f.equal a b = false) ∧
    (f.less a b = true → f.less b c = true → f.less a c = true))

/-! ## System instructions -/

/-- R451 to R454: SYSCALL and BREAK raise, whatever their code; SYNC and CACHE have no effect. -/
def Obligations.SystemCallsSyncAndCache : Prop :=
  (∀ (s : State) (code : Nat), Raises (.syscall code) s .syscall ∧ Raises (.brk code) s .breakpoint) ∧
  (∀ (s : State) (op : Nat) (base : Reg) (offset : Half),
    OnlyAdvances .sync s ∧ (Cop0Usable s → OnlyAdvances (.cache op base offset) s))

/-- R459 to R470: the conditional traps compare all 64 bits. -/
def Obligations.ConditionalTraps : Prop :=
  ∀ (s : State) (rs rt : Reg) (code : Nat) (imm : Half) (a b i : Int) (ua ub ui : Nat),
    a = (s.readReg rs).toInt → b = (s.readReg rt).toInt → i = imm.toInt → ua = (s.readReg rs).toNat →
    ub = (s.readReg rt).toNat → (ui : Int) = imm.toInt % 2 ^ 64 →
    TrapsWhen (.tge rs rt code) s (b ≤ a) ∧ TrapsWhen (.tgeu rs rt code) s (ub ≤ ua) ∧
    TrapsWhen (.tlt rs rt code) s (a < b) ∧ TrapsWhen (.tltu rs rt code) s (ua < ub) ∧
    TrapsWhen (.teq rs rt code) s (a = b) ∧ TrapsWhen (.tne rs rt code) s (a ≠ b) ∧
    TrapsWhen (.tgei rs imm) s (i ≤ a) ∧ TrapsWhen (.tgeiu rs imm) s (ui ≤ ua) ∧
    TrapsWhen (.tlti rs imm) s (a < i) ∧ TrapsWhen (.tltiu rs imm) s (ua < ui) ∧
    TrapsWhen (.teqi rs imm) s (a = i) ∧ TrapsWhen (.tnei rs imm) s (a ≠ i)
end

