-- ==== Sys2Proof/Laws/Encoding.lean ====
section
/-! SUPPORT. The fields of each encoding form read back, so that the round trip of an instruction is a rewriting. -/

namespace Sys2Proof

section RForm
variable (op : BitVec 6) (rs rt rd : Reg) (sa : BitVec 5) (funct : BitVec 6)

@[simp] theorem opOf_rForm : opOf (rForm op rs rt rd sa funct) = op := by
  unfold opOf rForm
  iterate 5 rw [BitVec.extractLsb'_append_eq_of_le (by decide)]
  simp
@[simp] theorem rsOf_rForm : rsOf (rForm op rs rt rd sa funct) = rs := by
  unfold rsOf rForm
  iterate 4 rw [BitVec.extractLsb'_append_eq_of_le (by decide)]
  rw [BitVec.extractLsb'_append_eq_of_add_le (by decide)]; simp
@[simp] theorem rtOf_rForm : rtOf (rForm op rs rt rd sa funct) = rt := by
  unfold rtOf rForm
  iterate 3 rw [BitVec.extractLsb'_append_eq_of_le (by decide)]
  rw [BitVec.extractLsb'_append_eq_of_add_le (by decide)]; simp
@[simp] theorem rdOf_rForm : rdOf (rForm op rs rt rd sa funct) = rd := by
  unfold rdOf rForm
  iterate 2 rw [BitVec.extractLsb'_append_eq_of_le (by decide)]
  rw [BitVec.extractLsb'_append_eq_of_add_le (by decide)]; simp
@[simp] theorem saOf_rForm : saOf (rForm op rs rt rd sa funct) = sa := by
  unfold saOf rForm
  rw [BitVec.extractLsb'_append_eq_of_le (by decide), BitVec.extractLsb'_append_eq_of_add_le (by decide)]; simp
@[simp] theorem functOf_rForm : functOf (rForm op rs rt rd sa funct) = funct := by
  unfold functOf rForm
  rw [BitVec.extractLsb'_append_eq_of_add_le (by decide)]; simp
@[simp] theorem bit25_rForm : (rForm op rs rt rd sa funct).getLsbD 25 = rs.getLsbD 4 := by
  have h := congrArg (fun x => BitVec.getLsbD x 4) (rsOf_rForm op rs rt rd sa funct)
  simpa [rsOf] using h
end RForm

section IForm
variable (op : BitVec 6) (rs rt : Reg) (imm : Half)

@[simp] theorem opOf_iForm : opOf (iForm op rs rt imm) = op := by
  unfold opOf iForm
  iterate 3 rw [BitVec.extractLsb'_append_eq_of_le (by decide)]
  simp
@[simp] theorem rsOf_iForm : rsOf (iForm op rs rt imm) = rs := by
  unfold rsOf iForm
  iterate 2 rw [BitVec.extractLsb'_append_eq_of_le (by decide)]
  rw [BitVec.extractLsb'_append_eq_of_add_le (by decide)]; simp
@[simp] theorem rtOf_iForm : rtOf (iForm op rs rt imm) = rt := by
  unfold rtOf iForm
  rw [BitVec.extractLsb'_append_eq_of_le (by decide), BitVec.extractLsb'_append_eq_of_add_le (by decide)]; simp
@[simp] theorem immOf_iForm : immOf (iForm op rs rt imm) = imm := by
  unfold immOf iForm
  rw [BitVec.extractLsb'_append_eq_of_add_le (by decide)]; simp
end IForm

@[simp] theorem opOf_jForm (op : BitVec 6) (target : BitVec 26) : opOf (jForm op target) = op := by
  unfold opOf jForm
  rw [BitVec.extractLsb'_append_eq_of_le (by decide)]; simp
@[simp] theorem targetOf_jForm (op : BitVec 6) (target : BitVec 26) : targetOf (jForm op target) = target := by
  unfold targetOf jForm
  rw [BitVec.extractLsb'_append_eq_of_add_le (by decide)]; simp

@[simp] theorem opOf_codeForm (code : Nat) (funct : BitVec 6) : opOf (codeForm code funct) = 0 := by
  unfold opOf codeForm
  iterate 2 rw [BitVec.extractLsb'_append_eq_of_le (by decide)]
  simp
@[simp] theorem codeOf_codeForm (code : Nat) (funct : BitVec 6) :
    codeOf (codeForm code funct) = BitVec.ofNat 20 code := by
  unfold codeOf codeForm
  rw [BitVec.extractLsb'_append_eq_of_le (by decide), BitVec.extractLsb'_append_eq_of_add_le (by decide)]; simp
@[simp] theorem functOf_codeForm (code : Nat) (funct : BitVec 6) : functOf (codeForm code funct) = funct := by
  unfold functOf codeForm
  rw [BitVec.extractLsb'_append_eq_of_add_le (by decide)]; simp

section TrapForm
variable (rs rt : Reg) (code : Nat) (funct : BitVec 6)

@[simp] theorem opOf_trapForm : opOf (trapForm rs rt code funct) = 0 := by
  unfold opOf trapForm
  iterate 4 rw [BitVec.extractLsb'_append_eq_of_le (by decide)]
  simp
@[simp] theorem rsOf_trapForm : rsOf (trapForm rs rt code funct) = rs := by
  unfold rsOf trapForm
  iterate 3 rw [BitVec.extractLsb'_append_eq_of_le (by decide)]
  rw [BitVec.extractLsb'_append_eq_of_add_le (by decide)]; simp
@[simp] theorem rtOf_trapForm : rtOf (trapForm rs rt code funct) = rt := by
  unfold rtOf trapForm
  iterate 2 rw [BitVec.extractLsb'_append_eq_of_le (by decide)]
  rw [BitVec.extractLsb'_append_eq_of_add_le (by decide)]; simp
@[simp] theorem trapCodeOf_trapForm : trapCodeOf (trapForm rs rt code funct) = BitVec.ofNat 10 code := by
  unfold trapCodeOf trapForm
  rw [BitVec.extractLsb'_append_eq_of_le (by decide), BitVec.extractLsb'_append_eq_of_add_le (by decide)]; simp
@[simp] theorem functOf_trapForm : functOf (trapForm rs rt code funct) = funct := by
  unfold functOf trapForm
  rw [BitVec.extractLsb'_append_eq_of_add_le (by decide)]; simp
end TrapForm

/-- The four bytes of a word give the word back (R90). -/
theorem wordOfBytes_bytesOfWord (w : Word) :
    wordOfBytes (w.extractLsb' 24 8) (w.extractLsb' 16 8) (w.extractLsb' 8 8) (w.extractLsb' 0 8) = w := by
  unfold wordOfBytes
  apply BitVec.eq_of_toNat_eq
  simp only [BitVec.toNat_append, BitVec.extractLsb'_toNat, Nat.shiftRight_eq_div_pow, Nat.pow_zero, Nat.div_one]
  have h := w.isLt
  rw [← Nat.shiftLeft_add_eq_or_of_lt (by omega), ← Nat.shiftLeft_add_eq_or_of_lt (by omega),
    ← Nat.shiftLeft_add_eq_or_of_lt (by omega)]
  simp only [Nat.shiftLeft_eq]
  omega

end Sys2Proof
end

