-- ==== Sys2Proof/Laws/Memory.lean ====
section
/-! SUPPORT. The laws of memory: every operation keeps the canonical form, a cell reads back what was written to it and
every other cell is left alone, and equal contents are equal lists. -/

namespace Sys2Proof.Machine

/-! ## The canonical form -/

theorem Memory.wfFrom_mono {m : Memory} {lo hi : Nat} (h : lo ≤ hi) (w : Memory.wfFrom hi m = true) :
    Memory.wfFrom lo m = true := by
  cases m with
  | nil => rfl
  | cons c rest =>
    simp only [Memory.wfFrom, Bool.and_eq_true, decide_eq_true_eq] at w ⊢
    exact ⟨⟨by omega, w.1.2⟩, w.2⟩

/-- A cell below the first listed one reads as unwritten. -/
theorem Memory.read_below {m : Memory} {lo k : Nat} (w : Memory.wfFrom lo m = true) (h : k < lo) :
    Memory.read m k = unwrittenByte := by
  induction m generalizing lo with
  | nil => rfl
  | cons c rest ih =>
    simp only [Memory.wfFrom, Bool.and_eq_true, decide_eq_true_eq] at w
    have hne : c.1 ≠ k := by omega
    simp only [Memory.read, hne, if_false]
    exact ih w.2 (by omega)

/-- A write keeps the canonical form. -/
theorem Memory.write_wfFrom {m : Memory} {lo k : Nat} {b : Byte} (w : Memory.wfFrom lo m = true) (h : lo ≤ k) :
    Memory.wfFrom lo (Memory.write m k b) = true := by
  induction m generalizing lo with
  | nil =>
    by_cases hb : b = unwrittenByte <;> simp [Memory.write, Memory.wfFrom, hb, h]
  | cons c rest ih =>
    obtain ⟨a, x⟩ := c
    simp only [Memory.wfFrom, Bool.and_eq_true, decide_eq_true_eq] at w
    obtain ⟨⟨hlo, hx⟩, hrest⟩ := w
    simp only [Memory.write]
    split
    · rename_i hka
      split
      · simp [Memory.wfFrom, hlo, hx, hrest]
      · rename_i hb
        simp [Memory.wfFrom, h, hb, hx, hrest]; omega
    · split
      · rename_i hnlt hk
        subst hk
        split
        · exact Memory.wfFrom_mono (by omega) hrest
        · rename_i hb; simp [Memory.wfFrom, hlo, hb, hrest]
      · rename_i hnlt hne
        simp only [Memory.wfFrom, Bool.and_eq_true, decide_eq_true_eq]
        exact ⟨⟨hlo, hx⟩, ih hrest (by omega)⟩

/-- A write keeps the canonical form. -/
theorem Memory.write_wf {m : Memory} (k : Nat) (b : Byte) (w : m.wf = true) : (Memory.write m k b).wf = true :=
  Memory.write_wfFrom w (Nat.zero_le k)

theorem Memory.read_write_from {m : Memory} {lo k : Nat} {b : Byte} (w : Memory.wfFrom lo m = true) (j : Nat) :
    Memory.read (Memory.write m k b) j = if j = k then b else Memory.read m j := by
  induction m generalizing lo with
  | nil =>
    by_cases hb : b = unwrittenByte
    · by_cases hj : j = k <;> simp [Memory.write, Memory.read, hb, hj]
    · by_cases hj : j = k
      · simp [Memory.write, Memory.read, hb, hj]
      · have : ¬ k = j := fun e => hj e.symm
        simp [Memory.write, Memory.read, hb, hj, this]
  | cons c rest ih =>
    obtain ⟨a, x⟩ := c
    simp only [Memory.wfFrom, Bool.and_eq_true, decide_eq_true_eq] at w
    obtain ⟨⟨hlo, hx⟩, hrest⟩ := w
    simp only [Memory.write]
    split
    · rename_i hka
      split
      · rename_i hb
        by_cases hj : j = k
        · subst hj
          have hne : ¬ a = j := by omega
          simp only [Memory.read, hne, if_false, if_true, hb]
          exact Memory.read_below hrest (by omega)
        · simp [hj]
      · by_cases hj : j = k
        · simp [Memory.read, hj]
        · have : ¬ k = j := fun e => hj e.symm
          simp [Memory.read, hj, this]
    · split
      · rename_i hnlt hk
        subst hk
        split
        · rename_i hb
          by_cases hj : j = k
          · subst hj; simp only [if_true, hb]; exact Memory.read_below hrest (by omega)
          · have : ¬ k = j := fun e => hj e.symm
            simp [Memory.read, hj, this]
        · by_cases hj : j = k
          · simp [Memory.read, hj]
          · have : ¬ k = j := fun e => hj e.symm
            simp [Memory.read, hj, this]
      · rename_i hnlt hne
        by_cases ha : a = j
        · subst ha
          have : ¬ a = k := fun e => hne e.symm
          simp [Memory.read, this]
        · simp only [Memory.read, ha, if_false]; exact ih hrest

/-- A cell read after a write: the byte written where it is the cell, else what was there. -/
theorem Memory.read_write {m : Memory} (w : m.wf = true) (k j : Nat) (b : Byte) :
    Memory.read (Memory.write m k b) j = if j = k then b else Memory.read m j := Memory.read_write_from w j

/-- Two canonical memories with the same contents are the same list. -/
theorem Memory.ext_from {m n : Memory} {lo : Nat} (wm : Memory.wfFrom lo m = true) (wn : Memory.wfFrom lo n = true)
    (h : ∀ k, Memory.read m k = Memory.read n k) : m = n := by
  induction m generalizing n lo with
  | nil =>
    cases n with
    | nil => rfl
    | cons c rest =>
      simp only [Memory.wfFrom, Bool.and_eq_true, decide_eq_true_eq] at wn
      have := h c.1
      simp only [Memory.read, if_true] at this
      exact absurd this.symm wn.1.2
  | cons c rest ih =>
    obtain ⟨a, x⟩ := c
    have wm' := wm
    simp only [Memory.wfFrom, Bool.and_eq_true, decide_eq_true_eq] at wm
    cases n with
    | nil =>
      have := h a
      simp only [Memory.read, if_true] at this
      exact absurd this wm.1.2
    | cons d rest' =>
      obtain ⟨e, y⟩ := d
      have wn' := wn
      simp only [Memory.wfFrom, Bool.and_eq_true, decide_eq_true_eq] at wn
      have hae : a = e := by
        rcases Nat.lt_trichotomy a e with hlt | heq | hgt
        · have hr := h a
          have hne : ¬ e = a := by omega
          simp only [Memory.read, if_true, hne, if_false] at hr
          rw [Memory.read_below wn.2 (by omega)] at hr
          exact absurd hr wm.1.2
        · exact heq
        · have hr := h e
          have hne : ¬ a = e := by omega
          simp only [Memory.read, if_true, hne, if_false] at hr
          rw [Memory.read_below wm.2 (by omega)] at hr
          exact absurd hr.symm wn.1.2
      subst hae
      have hxy : x = y := by have hr := h a; simpa [Memory.read] using hr
      subst hxy
      congr 1
      refine ih wm.2 wn.2 fun k => ?_
      by_cases hk : a = k
      · subst hk; rw [Memory.read_below wm.2 (by omega), Memory.read_below wn.2 (by omega)]
      · have hr := h k; simpa [Memory.read, hk] using hr

/-- Two canonical memories with the same contents are the same list. -/
theorem Memory.ext {m n : Memory} (wm : m.wf = true) (wn : n.wf = true)
    (h : ∀ k, Memory.read m k = Memory.read n k) : m = n := Memory.ext_from wm wn h

/-! ## Devices, router, accessor -/

theorem deviceWriteByte_wf (d : Device) {m : Memory} (off : Nat) (b : Byte) (w : m.wf = true) :
    (deviceWriteByte d m off b).wf = true := by
  cases d <;> simp only [deviceWriteByte]
  · split
    · exact Memory.write_wf _ _ w
    · exact w
  · split
    · exact Memory.write_wf _ _ w
    · exact w
  · exact w
  · exact w
  · exact w

theorem deviceWrite_wf (d : Device) {m : Memory} (off : Nat) (bs : List Byte) (w : m.wf = true) :
    (deviceWrite d m off bs).wf = true := by
  induction bs generalizing m off with
  | nil => exact w
  | cons b rest ih => exact ih _ (deviceWriteByte_wf d off b w)

/-- A byte written to a device changes at most the cell `deviceCell` names. -/
theorem read_deviceWriteByte (d : Device) {m : Memory} (off : Nat) (b : Byte) (w : m.wf = true) (k : Nat) :
    Memory.read (deviceWriteByte d m off b) k = if deviceCell d off = some k then b else Memory.read m k := by
  cases d <;> simp only [deviceWriteByte, deviceCell]
  case ram | storage =>
    split
    · simp only [Option.some.injEq]; rw [Memory.read_write w]; simp only [eq_comm]
    · simp
  all_goals simp

/-- A cell no written offset names keeps its byte. -/
theorem read_deviceWrite_of_not_cell (d : Device) {m : Memory} (off : Nat) (bs : List Byte) (w : m.wf = true) (k : Nat)
    (h : ∀ i, i < bs.length → deviceCell d (off + i) ≠ some k) :
    Memory.read (deviceWrite d m off bs) k = Memory.read m k := by
  induction bs generalizing m off with
  | nil => rfl
  | cons b rest ih =>
    have h0 := h 0 (by simp)
    simp only [Nat.add_zero] at h0
    simp only [deviceWrite]
    rw [ih (off + 1) (deviceWriteByte_wf d off b w) fun i hi => ?_, read_deviceWriteByte d off b w, if_neg h0]
    have := h (i + 1) (by simpa using hi)
    rwa [Nat.add_assoc, Nat.add_comm 1 i]

/-- The router address is the one `translate` maps to. -/
theorem translateAddr_eq_some {cfg : Config} {a pa : Word} : translateAddr cfg a = some pa ↔ translate cfg a = .mapped pa := by
  unfold translateAddr
  split <;> simp_all

/-- A read of the router changes at most the counter of free values. -/
theorem routerRead_some {s t : State} {pa : Word} {n : Nat} {v : Dword} (h : routerRead s pa n = some (v, t)) :
    t = s ∨ t = { s with draws := s.draws + 1 } := by
  unfold routerRead at h
  repeat' split at h
  all_goals first | (cases h; exact .inl rfl) | (cases h; exact .inr rfl) | cases h

/-- A write of the router changes memory, by one device write, and nothing else. -/
theorem routerWrite_some {s t : State} {pa : Word} {n : Nat} {v : Dword} (h : routerWrite s pa n v = some t) :
    ∃ w off, resolve s.map pa.toNat = some (w, off) ∧ off + n ≤ w.length ∧
      t = { s with mem := deviceWrite w.device s.mem off (bigEndianBytes n v) } := by
  unfold routerWrite at h
  split at h
  · cases h
  · rename_i w off hw
    split at h
    · rename_i hlen; cases h; exact ⟨w, off, hw, hlen, rfl⟩
    · cases h

/-- A read of the accessor changes at most the counter of free values. -/
theorem memRead_ok {s t : State} {a : Word} {n : Nat} {v : Dword} (h : memRead s a n = .ok v t) :
    t = s ∨ t = { s with draws := s.draws + 1 } := by
  unfold memRead at h
  split at h
  · cases h
  · split at h
    · split at h
      · rename_i hr; cases h; exact routerRead_some hr
      · cases h
    · cases h
    · cases h

/-- A write of the accessor changes memory, by one device write, and nothing else. -/
theorem memWrite_ok {s t : State} {a : Word} {n : Nat} {v : Dword} (h : memWrite s a n v = .ok t) :
    ∃ pa w off, translateAddr s.cfg a = some pa ∧ resolve s.map pa.toNat = some (w, off) ∧
      off + n ≤ w.length ∧ t = { s with mem := deviceWrite w.device s.mem off (bigEndianBytes n v) } := by
  unfold memWrite at h
  split at h
  · cases h
  · split at h
    · rename_i pa hpa
      split at h
      · rename_i hr
        cases h
        obtain ⟨w, off, hw, hl, e⟩ := routerWrite_some hr
        exact ⟨pa, w, off, translateAddr_eq_some.2 hpa, hw, hl, e⟩
      · cases h
    · cases h
    · cases h

/-- A refill is the stub's answer for the address, for a read and for a write alike. -/
theorem memRead_refill {s : State} {a : Word} {n : Nat} {kind : RefillKind} (h : memRead s a n = .refill kind) :
    translate s.cfg a = .refill kind := by
  unfold memRead at h
  repeat' split at h
  all_goals first | cases h; assumption | cases h

theorem memWrite_refill {s : State} {a : Word} {n : Nat} {v : Dword} {kind : RefillKind}
    (h : memWrite s a n v = .refill kind) : translate s.cfg a = .refill kind := by
  unfold memWrite at h
  repeat' split at h
  all_goals first | cases h; assumption | cases h

theorem stubLookup_ne_outside (miss : RefillKind) (a : Word) (ranges : List StubRange) :
    stubLookup miss a ranges ≠ .outsideBlock := by
  induction ranges with
  | nil => simp [stubLookup]
  | cons r rest ih => unfold stubLookup; repeat' split
                      all_goals first | exact ih | simp

/-- Only a supplied `TlbStub` answers with a refill (R82, R484). -/
theorem translate_refill {cfg : Config} {a : Word} {kind : RefillKind} (h : translate cfg a = .refill kind) :
    cfg.translate = .kseg ∧ ∃ stub, cfg.tlbStub = some stub := by
  unfold translate at h
  repeat' split at h
  all_goals first | cases h | exact ⟨by assumption, _, by assumption⟩

@[simp] theorem bigEndianBytes_length (n : Nat) (v : Dword) : (bigEndianBytes n v).length = n := by
  induction n with
  | zero => rfl
  | succ n ih => simp [bigEndianBytes, ih]

/-- A write of the accessor keeps the canonical form. -/
theorem memWrite_wf {s t : State} {a : Word} {n : Nat} {v : Dword} (w : s.mem.wf = true)
    (h : memWrite s a n v = .ok t) : t.mem.wf = true := by
  obtain ⟨_, _, _, _, _, _, rfl⟩ := memWrite_ok h
  exact deviceWrite_wf _ _ _ w

/-- A write of the accessor leaves every cell alone that `storedCells` does not list. -/
theorem memWrite_frame {s t : State} {a : Word} {n : Nat} {v : Dword} (w : s.mem.wf = true)
    (h : memWrite s a n v = .ok t) (k : Nat) (hk : k ∉ s.storedCells a n) :
    Memory.read t.mem k = Memory.read s.mem k := by
  obtain ⟨pa, win, off, hpa, hw, _, rfl⟩ := memWrite_ok h
  refine read_deviceWrite_of_not_cell _ _ _ w k fun i hi => ?_
  intro hc
  apply hk
  simp only [State.storedCells, hpa, hw, List.mem_filterMap, List.mem_range]
  exact ⟨i, by simpa using hi, hc⟩

/-- A placed word keeps the canonical form. -/
theorem placeBytes_wf (s : State) (a : Word) (bs : List Byte) (w : s.mem.wf = true) :
    (s.placeBytes a bs).mem.wf = true := by
  induction bs generalizing s a with
  | nil => exact w
  | cons b rest ih =>
    simp only [State.placeBytes]
    split
    · exact ih _ _ (Memory.write_wf _ _ w)
    · exact ih _ _ w

/-- The bulk copy keeps the canonical form. -/
theorem copyGranules_wf (n : Nat) (src dst : Word) {s t : State} (w : s.mem.wf = true)
    (h : copyGranules n src dst s = .next t) : t.mem.wf = true := by
  induction n generalizing s src dst with
  | zero => cases h; exact w
  | succ n ih =>
    simp only [copyGranules] at h
    split at h
    · rename_i u hu
      refine ih _ _ ?_ h
      unfold copyGranule at hu
      split at hu
      · rename_i v r hr
        have hm : r.mem = s.mem := by rcases routerRead_some hr with rfl | rfl <;> rfl
        split at hu
        · rename_i q hq
          cases hu
          obtain ⟨_, _, _, _, rfl⟩ := routerWrite_some hq
          exact deviceWrite_wf _ _ _ (hm ▸ w)
        · cases hu
      · cases hu
    · cases h
    · cases h

/-! ## The address map -/

/-- What a map resolves an address to is one of its windows, and the window contains the address (R84). -/
theorem resolve_some {map : List Window} {pa off : Nat} {w : Window} (h : resolve map pa = some (w, off)) :
    w ∈ map ∧ w.base ≤ pa ∧ pa < w.base + w.length ∧ off = pa - w.base := by
  induction map with
  | nil => cases h
  | cons v rest ih =>
    unfold resolve at h
    split at h
    · rename_i hv; cases h; exact ⟨by simp, hv.1, hv.2, rfl⟩
    · obtain ⟨m, r⟩ := ih h; exact ⟨List.mem_cons_of_mem _ m, r⟩

theorem mapWf_cons {w : Window} {rest : List Window} (h : mapWf (w :: rest) = true) :
    w.base + w.length ≤ 2 ^ 32 ∧ Window.fits w = true ∧
      (∀ v ∈ rest, Window.disjoint w v = true ∧ Device.apart w.device v.device = true) ∧ mapWf rest = true := by
  simp only [mapWf, Bool.and_eq_true, decide_eq_true_eq, List.all_eq_true] at h
  exact ⟨h.1.1.1, h.1.1.2, h.1.2, h.2⟩

/-- Every window of a well-formed map fits its device (R85, R87). -/
theorem fits_of_mapWf {map : List Window} {w : Window} (h : mapWf map = true) (m : w ∈ map) : Window.fits w = true := by
  induction map with
  | nil => cases m
  | cons v rest ih =>
    obtain ⟨_, f, _, r⟩ := mapWf_cons h
    rcases List.mem_cons.1 m with rfl | m
    · exact f
    · exact ih r m

/-- Reset memory has the canonical form. -/
theorem reset_memory_wf : State.reset.mem.wf = true := rfl

end Sys2Proof.Machine
end

