-- ==== Sys2Proof/Laws/State.lean ====
section
/-! SUPPORT. One lemma for each field of `State` under each update the operations make, and the reads of a register after
each write. -/

namespace Sys2Proof.Machine

@[simp] theorem State.writeReg_gpr (s : State) (r : Reg) (v : Dword) :
    (s.writeReg r v).gpr = if r = 0#5 then s.gpr else s.gpr.set r.toNat v := rfl
@[simp] theorem State.writeReg_hi (s : State) (r : Reg) (v : Dword) : (s.writeReg r v).hi = s.hi := rfl
@[simp] theorem State.writeReg_lo (s : State) (r : Reg) (v : Dword) : (s.writeReg r v).lo = s.lo := rfl
@[simp] theorem State.writeReg_pc (s : State) (r : Reg) (v : Dword) : (s.writeReg r v).pc = s.pc := rfl
@[simp] theorem State.writeReg_fpr (s : State) (r : Reg) (v : Dword) : (s.writeReg r v).fpr = s.fpr := rfl
@[simp] theorem State.writeReg_fcr31 (s : State) (r : Reg) (v : Dword) : (s.writeReg r v).fcr31 = s.fcr31 := rfl
@[simp] theorem State.writeReg_llBit (s : State) (r : Reg) (v : Dword) : (s.writeReg r v).llBit = s.llBit := rfl
@[simp] theorem State.writeReg_bu (s : State) (r : Reg) (v : Dword) : (s.writeReg r v).bu = s.bu := rfl
@[simp] theorem State.writeReg_snapshot (s : State) (r : Reg) (v : Dword) :
    (s.writeReg r v).snapshot = s.snapshot := rfl
@[simp] theorem State.writeReg_inject (s : State) (r : Reg) (v : Dword) : (s.writeReg r v).inject = s.inject := rfl
@[simp] theorem State.writeReg_pending (s : State) (r : Reg) (v : Dword) : (s.writeReg r v).pending = s.pending := rfl
@[simp] theorem State.writeReg_inputs (s : State) (r : Reg) (v : Dword) : (s.writeReg r v).inputs = s.inputs := rfl
@[simp] theorem State.writeReg_cop0 (s : State) (r : Reg) (v : Dword) : (s.writeReg r v).cop0 = s.cop0 := rfl
@[simp] theorem State.writeReg_map (s : State) (r : Reg) (v : Dword) : (s.writeReg r v).map = s.map := rfl
@[simp] theorem State.writeReg_mem (s : State) (r : Reg) (v : Dword) : (s.writeReg r v).mem = s.mem := rfl
@[simp] theorem State.writeReg_cfg (s : State) (r : Reg) (v : Dword) : (s.writeReg r v).cfg = s.cfg := rfl
@[simp] theorem State.writeReg_draws (s : State) (r : Reg) (v : Dword) : (s.writeReg r v).draws = s.draws := rfl

@[simp] theorem State.writeReg32_gpr (s : State) (r : Reg) (v : Word) :
    (s.writeReg32 r v).gpr = if r = 0#5 then s.gpr else s.gpr.set r.toNat (sext64 v) := rfl
@[simp] theorem State.writeReg32_hi (s : State) (r : Reg) (v : Word) : (s.writeReg32 r v).hi = s.hi := rfl
@[simp] theorem State.writeReg32_lo (s : State) (r : Reg) (v : Word) : (s.writeReg32 r v).lo = s.lo := rfl
@[simp] theorem State.writeReg32_pc (s : State) (r : Reg) (v : Word) : (s.writeReg32 r v).pc = s.pc := rfl
@[simp] theorem State.writeReg32_fpr (s : State) (r : Reg) (v : Word) : (s.writeReg32 r v).fpr = s.fpr := rfl
@[simp] theorem State.writeReg32_fcr31 (s : State) (r : Reg) (v : Word) : (s.writeReg32 r v).fcr31 = s.fcr31 := rfl
@[simp] theorem State.writeReg32_llBit (s : State) (r : Reg) (v : Word) : (s.writeReg32 r v).llBit = s.llBit := rfl
@[simp] theorem State.writeReg32_bu (s : State) (r : Reg) (v : Word) : (s.writeReg32 r v).bu = s.bu := rfl
@[simp] theorem State.writeReg32_snapshot (s : State) (r : Reg) (v : Word) :
    (s.writeReg32 r v).snapshot = s.snapshot := rfl
@[simp] theorem State.writeReg32_inject (s : State) (r : Reg) (v : Word) : (s.writeReg32 r v).inject = s.inject := rfl
@[simp] theorem State.writeReg32_pending (s : State) (r : Reg) (v : Word) :
    (s.writeReg32 r v).pending = s.pending := rfl
@[simp] theorem State.writeReg32_inputs (s : State) (r : Reg) (v : Word) : (s.writeReg32 r v).inputs = s.inputs := rfl
@[simp] theorem State.writeReg32_cop0 (s : State) (r : Reg) (v : Word) : (s.writeReg32 r v).cop0 = s.cop0 := rfl
@[simp] theorem State.writeReg32_map (s : State) (r : Reg) (v : Word) : (s.writeReg32 r v).map = s.map := rfl
@[simp] theorem State.writeReg32_mem (s : State) (r : Reg) (v : Word) : (s.writeReg32 r v).mem = s.mem := rfl
@[simp] theorem State.writeReg32_cfg (s : State) (r : Reg) (v : Word) : (s.writeReg32 r v).cfg = s.cfg := rfl
@[simp] theorem State.writeReg32_draws (s : State) (r : Reg) (v : Word) : (s.writeReg32 r v).draws = s.draws := rfl

@[simp] theorem State.writeHiLo_gpr (s : State) (h l : Dword) : (s.writeHiLo h l).gpr = s.gpr := rfl
@[simp] theorem State.writeHiLo_hi (s : State) (h l : Dword) : (s.writeHiLo h l).hi = h := rfl
@[simp] theorem State.writeHiLo_lo (s : State) (h l : Dword) : (s.writeHiLo h l).lo = l := rfl
@[simp] theorem State.writeHiLo_pc (s : State) (h l : Dword) : (s.writeHiLo h l).pc = s.pc := rfl
@[simp] theorem State.writeHiLo_fpr (s : State) (h l : Dword) : (s.writeHiLo h l).fpr = s.fpr := rfl
@[simp] theorem State.writeHiLo_fcr31 (s : State) (h l : Dword) : (s.writeHiLo h l).fcr31 = s.fcr31 := rfl
@[simp] theorem State.writeHiLo_llBit (s : State) (h l : Dword) : (s.writeHiLo h l).llBit = s.llBit := rfl
@[simp] theorem State.writeHiLo_bu (s : State) (h l : Dword) : (s.writeHiLo h l).bu = s.bu := rfl
@[simp] theorem State.writeHiLo_snapshot (s : State) (h l : Dword) : (s.writeHiLo h l).snapshot = s.snapshot := rfl
@[simp] theorem State.writeHiLo_inject (s : State) (h l : Dword) : (s.writeHiLo h l).inject = s.inject := rfl
@[simp] theorem State.writeHiLo_pending (s : State) (h l : Dword) : (s.writeHiLo h l).pending = s.pending := rfl
@[simp] theorem State.writeHiLo_inputs (s : State) (h l : Dword) : (s.writeHiLo h l).inputs = s.inputs := rfl
@[simp] theorem State.writeHiLo_cop0 (s : State) (h l : Dword) : (s.writeHiLo h l).cop0 = s.cop0 := rfl
@[simp] theorem State.writeHiLo_map (s : State) (h l : Dword) : (s.writeHiLo h l).map = s.map := rfl
@[simp] theorem State.writeHiLo_mem (s : State) (h l : Dword) : (s.writeHiLo h l).mem = s.mem := rfl
@[simp] theorem State.writeHiLo_cfg (s : State) (h l : Dword) : (s.writeHiLo h l).cfg = s.cfg := rfl
@[simp] theorem State.writeHiLo_draws (s : State) (h l : Dword) : (s.writeHiLo h l).draws = s.draws := rfl

@[simp] theorem State.writeHiLo_readReg (s : State) (h l : Dword) (q : Reg) :
    (s.writeHiLo h l).readReg q = s.readReg q := rfl

@[simp] theorem State.writeFW_gpr (s : State) (i : Reg) (v : Word) : (s.writeFW i v).gpr = s.gpr := rfl
@[simp] theorem State.writeFW_hi (s : State) (i : Reg) (v : Word) : (s.writeFW i v).hi = s.hi := rfl
@[simp] theorem State.writeFW_lo (s : State) (i : Reg) (v : Word) : (s.writeFW i v).lo = s.lo := rfl
@[simp] theorem State.writeFW_pc (s : State) (i : Reg) (v : Word) : (s.writeFW i v).pc = s.pc := rfl
@[simp] theorem State.writeFW_fcr31 (s : State) (i : Reg) (v : Word) : (s.writeFW i v).fcr31 = s.fcr31 := rfl
@[simp] theorem State.writeFW_llBit (s : State) (i : Reg) (v : Word) : (s.writeFW i v).llBit = s.llBit := rfl
@[simp] theorem State.writeFW_bu (s : State) (i : Reg) (v : Word) : (s.writeFW i v).bu = s.bu := rfl
@[simp] theorem State.writeFW_snapshot (s : State) (i : Reg) (v : Word) : (s.writeFW i v).snapshot = s.snapshot := rfl
@[simp] theorem State.writeFW_inject (s : State) (i : Reg) (v : Word) : (s.writeFW i v).inject = s.inject := rfl
@[simp] theorem State.writeFW_pending (s : State) (i : Reg) (v : Word) : (s.writeFW i v).pending = s.pending := rfl
@[simp] theorem State.writeFW_inputs (s : State) (i : Reg) (v : Word) : (s.writeFW i v).inputs = s.inputs := rfl
@[simp] theorem State.writeFW_cop0 (s : State) (i : Reg) (v : Word) : (s.writeFW i v).cop0 = s.cop0 := rfl
@[simp] theorem State.writeFW_map (s : State) (i : Reg) (v : Word) : (s.writeFW i v).map = s.map := rfl
@[simp] theorem State.writeFW_mem (s : State) (i : Reg) (v : Word) : (s.writeFW i v).mem = s.mem := rfl
@[simp] theorem State.writeFW_cfg (s : State) (i : Reg) (v : Word) : (s.writeFW i v).cfg = s.cfg := rfl
@[simp] theorem State.writeFW_draws (s : State) (i : Reg) (v : Word) : (s.writeFW i v).draws = s.draws := rfl

@[simp] theorem State.writeFW_readReg (s : State) (i : Reg) (v : Word) (q : Reg) :
    (s.writeFW i v).readReg q = s.readReg q := rfl

@[simp] theorem State.writeFD_gpr (s : State) (i : Reg) (v : Dword) : (s.writeFD i v).gpr = s.gpr := rfl
@[simp] theorem State.writeFD_hi (s : State) (i : Reg) (v : Dword) : (s.writeFD i v).hi = s.hi := rfl
@[simp] theorem State.writeFD_lo (s : State) (i : Reg) (v : Dword) : (s.writeFD i v).lo = s.lo := rfl
@[simp] theorem State.writeFD_pc (s : State) (i : Reg) (v : Dword) : (s.writeFD i v).pc = s.pc := rfl
@[simp] theorem State.writeFD_fpr (s : State) (i : Reg) (v : Dword) : (s.writeFD i v).fpr = s.fpr.set i.toNat v := rfl
@[simp] theorem State.writeFD_fcr31 (s : State) (i : Reg) (v : Dword) : (s.writeFD i v).fcr31 = s.fcr31 := rfl
@[simp] theorem State.writeFD_llBit (s : State) (i : Reg) (v : Dword) : (s.writeFD i v).llBit = s.llBit := rfl
@[simp] theorem State.writeFD_bu (s : State) (i : Reg) (v : Dword) : (s.writeFD i v).bu = s.bu := rfl
@[simp] theorem State.writeFD_snapshot (s : State) (i : Reg) (v : Dword) :
    (s.writeFD i v).snapshot = s.snapshot := rfl
@[simp] theorem State.writeFD_inject (s : State) (i : Reg) (v : Dword) : (s.writeFD i v).inject = s.inject := rfl
@[simp] theorem State.writeFD_pending (s : State) (i : Reg) (v : Dword) : (s.writeFD i v).pending = s.pending := rfl
@[simp] theorem State.writeFD_inputs (s : State) (i : Reg) (v : Dword) : (s.writeFD i v).inputs = s.inputs := rfl
@[simp] theorem State.writeFD_cop0 (s : State) (i : Reg) (v : Dword) : (s.writeFD i v).cop0 = s.cop0 := rfl
@[simp] theorem State.writeFD_map (s : State) (i : Reg) (v : Dword) : (s.writeFD i v).map = s.map := rfl
@[simp] theorem State.writeFD_mem (s : State) (i : Reg) (v : Dword) : (s.writeFD i v).mem = s.mem := rfl
@[simp] theorem State.writeFD_cfg (s : State) (i : Reg) (v : Dword) : (s.writeFD i v).cfg = s.cfg := rfl
@[simp] theorem State.writeFD_draws (s : State) (i : Reg) (v : Dword) : (s.writeFD i v).draws = s.draws := rfl

@[simp] theorem State.writeFD_readReg (s : State) (i : Reg) (v : Dword) (q : Reg) :
    (s.writeFD i v).readReg q = s.readReg q := rfl

@[simp] theorem State.writeFCR_gpr (s : State) (n : Reg) (v : Word) : (s.writeFCR n v).gpr = s.gpr := rfl
@[simp] theorem State.writeFCR_hi (s : State) (n : Reg) (v : Word) : (s.writeFCR n v).hi = s.hi := rfl
@[simp] theorem State.writeFCR_lo (s : State) (n : Reg) (v : Word) : (s.writeFCR n v).lo = s.lo := rfl
@[simp] theorem State.writeFCR_pc (s : State) (n : Reg) (v : Word) : (s.writeFCR n v).pc = s.pc := rfl
@[simp] theorem State.writeFCR_fpr (s : State) (n : Reg) (v : Word) : (s.writeFCR n v).fpr = s.fpr := rfl
@[simp] theorem State.writeFCR_fcr31 (s : State) (n : Reg) (v : Word) :
    (s.writeFCR n v).fcr31 = if n = 31#5 then v &&& fcr31Mask else s.fcr31 := rfl
@[simp] theorem State.writeFCR_llBit (s : State) (n : Reg) (v : Word) : (s.writeFCR n v).llBit = s.llBit := rfl
@[simp] theorem State.writeFCR_bu (s : State) (n : Reg) (v : Word) : (s.writeFCR n v).bu = s.bu := rfl
@[simp] theorem State.writeFCR_snapshot (s : State) (n : Reg) (v : Word) :
    (s.writeFCR n v).snapshot = s.snapshot := rfl
@[simp] theorem State.writeFCR_inject (s : State) (n : Reg) (v : Word) : (s.writeFCR n v).inject = s.inject := rfl
@[simp] theorem State.writeFCR_pending (s : State) (n : Reg) (v : Word) : (s.writeFCR n v).pending = s.pending := rfl
@[simp] theorem State.writeFCR_inputs (s : State) (n : Reg) (v : Word) : (s.writeFCR n v).inputs = s.inputs := rfl
@[simp] theorem State.writeFCR_cop0 (s : State) (n : Reg) (v : Word) : (s.writeFCR n v).cop0 = s.cop0 := rfl
@[simp] theorem State.writeFCR_map (s : State) (n : Reg) (v : Word) : (s.writeFCR n v).map = s.map := rfl
@[simp] theorem State.writeFCR_mem (s : State) (n : Reg) (v : Word) : (s.writeFCR n v).mem = s.mem := rfl
@[simp] theorem State.writeFCR_cfg (s : State) (n : Reg) (v : Word) : (s.writeFCR n v).cfg = s.cfg := rfl
@[simp] theorem State.writeFCR_draws (s : State) (n : Reg) (v : Word) : (s.writeFCR n v).draws = s.draws := rfl

@[simp] theorem State.writeFCR_readReg (s : State) (n : Reg) (v : Word) (q : Reg) :
    (s.writeFCR n v).readReg q = s.readReg q := rfl

@[simp] theorem State.writeC0_gpr (s : State) (n : Reg) (v : Dword) : (s.writeC0 n v).gpr = s.gpr := rfl
@[simp] theorem State.writeC0_hi (s : State) (n : Reg) (v : Dword) : (s.writeC0 n v).hi = s.hi := rfl
@[simp] theorem State.writeC0_lo (s : State) (n : Reg) (v : Dword) : (s.writeC0 n v).lo = s.lo := rfl
@[simp] theorem State.writeC0_pc (s : State) (n : Reg) (v : Dword) : (s.writeC0 n v).pc = s.pc := rfl
@[simp] theorem State.writeC0_fpr (s : State) (n : Reg) (v : Dword) : (s.writeC0 n v).fpr = s.fpr := rfl
@[simp] theorem State.writeC0_fcr31 (s : State) (n : Reg) (v : Dword) : (s.writeC0 n v).fcr31 = s.fcr31 := rfl
@[simp] theorem State.writeC0_llBit (s : State) (n : Reg) (v : Dword) : (s.writeC0 n v).llBit = s.llBit := rfl
@[simp] theorem State.writeC0_bu (s : State) (n : Reg) (v : Dword) : (s.writeC0 n v).bu = s.bu := rfl
@[simp] theorem State.writeC0_snapshot (s : State) (n : Reg) (v : Dword) :
    (s.writeC0 n v).snapshot = s.snapshot := rfl
@[simp] theorem State.writeC0_inject (s : State) (n : Reg) (v : Dword) : (s.writeC0 n v).inject = s.inject := rfl
@[simp] theorem State.writeC0_pending (s : State) (n : Reg) (v : Dword) : (s.writeC0 n v).pending = s.pending := rfl
@[simp] theorem State.writeC0_inputs (s : State) (n : Reg) (v : Dword) : (s.writeC0 n v).inputs = s.inputs := rfl
@[simp] theorem State.writeC0_cop0 (s : State) (n : Reg) (v : Dword) : (s.writeC0 n v).cop0 = s.cop0.write n v := rfl
@[simp] theorem State.writeC0_map (s : State) (n : Reg) (v : Dword) : (s.writeC0 n v).map = s.map := rfl
@[simp] theorem State.writeC0_mem (s : State) (n : Reg) (v : Dword) : (s.writeC0 n v).mem = s.mem := rfl
@[simp] theorem State.writeC0_cfg (s : State) (n : Reg) (v : Dword) : (s.writeC0 n v).cfg = s.cfg := rfl
@[simp] theorem State.writeC0_draws (s : State) (n : Reg) (v : Dword) : (s.writeC0 n v).draws = s.draws := rfl

@[simp] theorem State.writeC0_readReg (s : State) (n : Reg) (v : Dword) (q : Reg) :
    (s.writeC0 n v).readReg q = s.readReg q := rfl

@[simp] theorem State.advance_gpr (s : State) : (s.advance).gpr = s.gpr := rfl
@[simp] theorem State.advance_hi (s : State) : (s.advance).hi = s.hi := rfl
@[simp] theorem State.advance_lo (s : State) : (s.advance).lo = s.lo := rfl
@[simp] theorem State.advance_pc (s : State) :
    (s.advance).pc = if s.bu.branchDelayPending then s.bu.targetAddress else s.pc + 4 := rfl
@[simp] theorem State.advance_fpr (s : State) : (s.advance).fpr = s.fpr := rfl
@[simp] theorem State.advance_fcr31 (s : State) : (s.advance).fcr31 = s.fcr31 := rfl
@[simp] theorem State.advance_llBit (s : State) : (s.advance).llBit = s.llBit := rfl
@[simp] theorem State.advance_bu (s : State) : (s.advance).bu = s.bu.afterAdvance := rfl
@[simp] theorem State.advance_snapshot (s : State) : (s.advance).snapshot = s.snapshot := rfl
@[simp] theorem State.advance_inject (s : State) : (s.advance).inject = s.inject := rfl
@[simp] theorem State.advance_pending (s : State) : (s.advance).pending = s.pending := rfl
@[simp] theorem State.advance_inputs (s : State) : (s.advance).inputs = s.inputs := rfl
@[simp] theorem State.advance_cop0 (s : State) : (s.advance).cop0 = s.cop0 := rfl
@[simp] theorem State.advance_map (s : State) : (s.advance).map = s.map := rfl
@[simp] theorem State.advance_mem (s : State) : (s.advance).mem = s.mem := rfl
@[simp] theorem State.advance_cfg (s : State) : (s.advance).cfg = s.cfg := rfl
@[simp] theorem State.advance_draws (s : State) : (s.advance).draws = s.draws := rfl

@[simp] theorem State.advance_readReg (s : State) (q : Reg) :
    (s.advance).readReg q = s.readReg q := rfl

@[simp] theorem State.setBranch_gpr (s : State) (t : Dword) (u : Bool) : (s.setBranch t u).gpr = s.gpr := rfl
@[simp] theorem State.setBranch_hi (s : State) (t : Dword) (u : Bool) : (s.setBranch t u).hi = s.hi := rfl
@[simp] theorem State.setBranch_lo (s : State) (t : Dword) (u : Bool) : (s.setBranch t u).lo = s.lo := rfl
@[simp] theorem State.setBranch_pc (s : State) (t : Dword) (u : Bool) : (s.setBranch t u).pc = s.pc := rfl
@[simp] theorem State.setBranch_fpr (s : State) (t : Dword) (u : Bool) : (s.setBranch t u).fpr = s.fpr := rfl
@[simp] theorem State.setBranch_fcr31 (s : State) (t : Dword) (u : Bool) : (s.setBranch t u).fcr31 = s.fcr31 := rfl
@[simp] theorem State.setBranch_llBit (s : State) (t : Dword) (u : Bool) : (s.setBranch t u).llBit = s.llBit := rfl
@[simp] theorem State.setBranch_bu (s : State) (t : Dword) (u : Bool) :
    (s.setBranch t u).bu = ⟨true, true, u, t, s.bu.nullifyNext⟩ := rfl
@[simp] theorem State.setBranch_snapshot (s : State) (t : Dword) (u : Bool) :
    (s.setBranch t u).snapshot = s.snapshot := rfl
@[simp] theorem State.setBranch_inject (s : State) (t : Dword) (u : Bool) : (s.setBranch t u).inject = s.inject := rfl
@[simp] theorem State.setBranch_pending (s : State) (t : Dword) (u : Bool) :
    (s.setBranch t u).pending = s.pending := rfl
@[simp] theorem State.setBranch_inputs (s : State) (t : Dword) (u : Bool) : (s.setBranch t u).inputs = s.inputs := rfl
@[simp] theorem State.setBranch_cop0 (s : State) (t : Dword) (u : Bool) : (s.setBranch t u).cop0 = s.cop0 := rfl
@[simp] theorem State.setBranch_map (s : State) (t : Dword) (u : Bool) : (s.setBranch t u).map = s.map := rfl
@[simp] theorem State.setBranch_mem (s : State) (t : Dword) (u : Bool) : (s.setBranch t u).mem = s.mem := rfl
@[simp] theorem State.setBranch_cfg (s : State) (t : Dword) (u : Bool) : (s.setBranch t u).cfg = s.cfg := rfl
@[simp] theorem State.setBranch_draws (s : State) (t : Dword) (u : Bool) : (s.setBranch t u).draws = s.draws := rfl

@[simp] theorem State.setBranch_readReg (s : State) (t : Dword) (u : Bool) (q : Reg) :
    (s.setBranch t u).readReg q = s.readReg q := rfl

@[simp] theorem State.setNullify_gpr (s : State) : (s.setNullify).gpr = s.gpr := rfl
@[simp] theorem State.setNullify_hi (s : State) : (s.setNullify).hi = s.hi := rfl
@[simp] theorem State.setNullify_lo (s : State) : (s.setNullify).lo = s.lo := rfl
@[simp] theorem State.setNullify_pc (s : State) : (s.setNullify).pc = s.pc := rfl
@[simp] theorem State.setNullify_fpr (s : State) : (s.setNullify).fpr = s.fpr := rfl
@[simp] theorem State.setNullify_fcr31 (s : State) : (s.setNullify).fcr31 = s.fcr31 := rfl
@[simp] theorem State.setNullify_llBit (s : State) : (s.setNullify).llBit = s.llBit := rfl
@[simp] theorem State.setNullify_snapshot (s : State) : (s.setNullify).snapshot = s.snapshot := rfl
@[simp] theorem State.setNullify_inject (s : State) : (s.setNullify).inject = s.inject := rfl
@[simp] theorem State.setNullify_pending (s : State) : (s.setNullify).pending = s.pending := rfl
@[simp] theorem State.setNullify_inputs (s : State) : (s.setNullify).inputs = s.inputs := rfl
@[simp] theorem State.setNullify_cop0 (s : State) : (s.setNullify).cop0 = s.cop0 := rfl
@[simp] theorem State.setNullify_map (s : State) : (s.setNullify).map = s.map := rfl
@[simp] theorem State.setNullify_mem (s : State) : (s.setNullify).mem = s.mem := rfl
@[simp] theorem State.setNullify_cfg (s : State) : (s.setNullify).cfg = s.cfg := rfl
@[simp] theorem State.setNullify_draws (s : State) : (s.setNullify).draws = s.draws := rfl

@[simp] theorem State.setNullify_readReg (s : State) (q : Reg) :
    (s.setNullify).readReg q = s.readReg q := rfl

@[simp] theorem State.toDelaySlot_gpr (s : State) : (s.toDelaySlot).gpr = s.gpr := rfl
@[simp] theorem State.toDelaySlot_hi (s : State) : (s.toDelaySlot).hi = s.hi := rfl
@[simp] theorem State.toDelaySlot_lo (s : State) : (s.toDelaySlot).lo = s.lo := rfl
@[simp] theorem State.toDelaySlot_pc (s : State) : (s.toDelaySlot).pc = s.pc + 4 := rfl
@[simp] theorem State.toDelaySlot_fpr (s : State) : (s.toDelaySlot).fpr = s.fpr := rfl
@[simp] theorem State.toDelaySlot_fcr31 (s : State) : (s.toDelaySlot).fcr31 = s.fcr31 := rfl
@[simp] theorem State.toDelaySlot_llBit (s : State) : (s.toDelaySlot).llBit = s.llBit := rfl
@[simp] theorem State.toDelaySlot_bu (s : State) : (s.toDelaySlot).bu = s.bu := rfl
@[simp] theorem State.toDelaySlot_snapshot (s : State) : (s.toDelaySlot).snapshot = s.snapshot := rfl
@[simp] theorem State.toDelaySlot_inject (s : State) : (s.toDelaySlot).inject = s.inject := rfl
@[simp] theorem State.toDelaySlot_pending (s : State) : (s.toDelaySlot).pending = s.pending := rfl
@[simp] theorem State.toDelaySlot_inputs (s : State) : (s.toDelaySlot).inputs = s.inputs := rfl
@[simp] theorem State.toDelaySlot_cop0 (s : State) : (s.toDelaySlot).cop0 = s.cop0 := rfl
@[simp] theorem State.toDelaySlot_map (s : State) : (s.toDelaySlot).map = s.map := rfl
@[simp] theorem State.toDelaySlot_mem (s : State) : (s.toDelaySlot).mem = s.mem := rfl
@[simp] theorem State.toDelaySlot_cfg (s : State) : (s.toDelaySlot).cfg = s.cfg := rfl
@[simp] theorem State.toDelaySlot_draws (s : State) : (s.toDelaySlot).draws = s.draws := rfl

@[simp] theorem State.toDelaySlot_readReg (s : State) (q : Reg) :
    (s.toDelaySlot).readReg q = s.readReg q := rfl

@[simp] theorem State.requestXtlb_gpr (s : State) (b : Bool) : (s.requestXtlb b).gpr = s.gpr := rfl
@[simp] theorem State.requestXtlb_hi (s : State) (b : Bool) : (s.requestXtlb b).hi = s.hi := rfl
@[simp] theorem State.requestXtlb_lo (s : State) (b : Bool) : (s.requestXtlb b).lo = s.lo := rfl
@[simp] theorem State.requestXtlb_pc (s : State) (b : Bool) : (s.requestXtlb b).pc = s.pc := rfl
@[simp] theorem State.requestXtlb_fpr (s : State) (b : Bool) : (s.requestXtlb b).fpr = s.fpr := rfl
@[simp] theorem State.requestXtlb_fcr31 (s : State) (b : Bool) : (s.requestXtlb b).fcr31 = s.fcr31 := rfl
@[simp] theorem State.requestXtlb_llBit (s : State) (b : Bool) : (s.requestXtlb b).llBit = s.llBit := rfl
@[simp] theorem State.requestXtlb_bu (s : State) (b : Bool) : (s.requestXtlb b).bu = s.bu := rfl
@[simp] theorem State.requestXtlb_snapshot (s : State) (b : Bool) : (s.requestXtlb b).snapshot = s.snapshot := rfl
@[simp] theorem State.requestXtlb_inject (s : State) (b : Bool) : (s.requestXtlb b).inject = s.inject := rfl
@[simp] theorem State.requestXtlb_inputs (s : State) (b : Bool) : (s.requestXtlb b).inputs = s.inputs := rfl
@[simp] theorem State.requestXtlb_cop0 (s : State) (b : Bool) : (s.requestXtlb b).cop0 = s.cop0 := rfl
@[simp] theorem State.requestXtlb_map (s : State) (b : Bool) : (s.requestXtlb b).map = s.map := rfl
@[simp] theorem State.requestXtlb_mem (s : State) (b : Bool) : (s.requestXtlb b).mem = s.mem := rfl
@[simp] theorem State.requestXtlb_cfg (s : State) (b : Bool) : (s.requestXtlb b).cfg = s.cfg := rfl
@[simp] theorem State.requestXtlb_draws (s : State) (b : Bool) : (s.requestXtlb b).draws = s.draws := rfl
@[simp] theorem State.requestXtlb_pending (s : State) (b : Bool) :
    (s.requestXtlb b).pending = { s.pending with xtlb := true, xtlbStore := b } := rfl
@[simp] theorem State.requestXtlb_readReg (s : State) (b : Bool) (q : Reg) :
    (s.requestXtlb b).readReg q = s.readReg q := rfl

@[simp] theorem State.recordException_gpr (s : State) (e : Exc) : (s.recordException e).gpr = s.gpr := rfl
@[simp] theorem State.recordException_hi (s : State) (e : Exc) : (s.recordException e).hi = s.hi := rfl
@[simp] theorem State.recordException_lo (s : State) (e : Exc) : (s.recordException e).lo = s.lo := rfl
@[simp] theorem State.recordException_pc (s : State) (e : Exc) : (s.recordException e).pc = s.pc := rfl
@[simp] theorem State.recordException_fpr (s : State) (e : Exc) : (s.recordException e).fpr = s.fpr := rfl
@[simp] theorem State.recordException_fcr31 (s : State) (e : Exc) : (s.recordException e).fcr31 = s.fcr31 := rfl
@[simp] theorem State.recordException_llBit (s : State) (e : Exc) : (s.recordException e).llBit = s.llBit := rfl
@[simp] theorem State.recordException_bu (s : State) (e : Exc) : (s.recordException e).bu = s.bu := rfl
@[simp] theorem State.recordException_snapshot (s : State) (e : Exc) :
    (s.recordException e).snapshot = s.snapshot := rfl
@[simp] theorem State.recordException_inject (s : State) (e : Exc) : (s.recordException e).inject = s.inject := rfl
@[simp] theorem State.recordException_inputs (s : State) (e : Exc) : (s.recordException e).inputs = s.inputs := rfl
@[simp] theorem State.recordException_map (s : State) (e : Exc) : (s.recordException e).map = s.map := rfl
@[simp] theorem State.recordException_mem (s : State) (e : Exc) : (s.recordException e).mem = s.mem := rfl
@[simp] theorem State.recordException_cfg (s : State) (e : Exc) : (s.recordException e).cfg = s.cfg := rfl
@[simp] theorem State.recordException_draws (s : State) (e : Exc) : (s.recordException e).draws = s.draws := rfl

@[simp] theorem State.recordException_readReg (s : State) (e : Exc) (q : Reg) :
    (s.recordException e).readReg q = s.readReg q := rfl

@[simp] theorem State.setLink_gpr (s : State) (a : Word) : (s.setLink a).gpr = s.gpr := rfl
@[simp] theorem State.setLink_hi (s : State) (a : Word) : (s.setLink a).hi = s.hi := rfl
@[simp] theorem State.setLink_lo (s : State) (a : Word) : (s.setLink a).lo = s.lo := rfl
@[simp] theorem State.setLink_pc (s : State) (a : Word) : (s.setLink a).pc = s.pc := rfl
@[simp] theorem State.setLink_fpr (s : State) (a : Word) : (s.setLink a).fpr = s.fpr := rfl
@[simp] theorem State.setLink_fcr31 (s : State) (a : Word) : (s.setLink a).fcr31 = s.fcr31 := rfl
@[simp] theorem State.setLink_llBit (s : State) (a : Word) : (s.setLink a).llBit = true := rfl
@[simp] theorem State.setLink_bu (s : State) (a : Word) : (s.setLink a).bu = s.bu := rfl
@[simp] theorem State.setLink_snapshot (s : State) (a : Word) : (s.setLink a).snapshot = s.snapshot := rfl
@[simp] theorem State.setLink_inject (s : State) (a : Word) : (s.setLink a).inject = s.inject := rfl
@[simp] theorem State.setLink_pending (s : State) (a : Word) : (s.setLink a).pending = s.pending := rfl
@[simp] theorem State.setLink_inputs (s : State) (a : Word) : (s.setLink a).inputs = s.inputs := rfl
@[simp] theorem State.setLink_map (s : State) (a : Word) : (s.setLink a).map = s.map := rfl
@[simp] theorem State.setLink_mem (s : State) (a : Word) : (s.setLink a).mem = s.mem := rfl
@[simp] theorem State.setLink_cfg (s : State) (a : Word) : (s.setLink a).cfg = s.cfg := rfl
@[simp] theorem State.setLink_draws (s : State) (a : Word) : (s.setLink a).draws = s.draws := rfl

@[simp] theorem State.setLink_readReg (s : State) (a : Word) (q : Reg) :
    (s.setLink a).readReg q = s.readReg q := rfl

@[simp] theorem State.takeException_gpr (s : State) (ev : Event) : (s.takeException ev).gpr = s.gpr := rfl
@[simp] theorem State.takeException_hi (s : State) (ev : Event) : (s.takeException ev).hi = s.hi := rfl
@[simp] theorem State.takeException_lo (s : State) (ev : Event) : (s.takeException ev).lo = s.lo := rfl
@[simp] theorem State.takeException_pc (s : State) (ev : Event) : (s.takeException ev).pc = s.vector ev := rfl
@[simp] theorem State.takeException_fpr (s : State) (ev : Event) : (s.takeException ev).fpr = s.fpr := rfl
@[simp] theorem State.takeException_fcr31 (s : State) (ev : Event) : (s.takeException ev).fcr31 = s.fcr31 := rfl
@[simp] theorem State.takeException_llBit (s : State) (ev : Event) : (s.takeException ev).llBit = s.llBit := rfl
@[simp] theorem State.takeException_bu (s : State) (ev : Event) : (s.takeException ev).bu = BranchUnit.clear := rfl
@[simp] theorem State.takeException_snapshot (s : State) (ev : Event) :
    (s.takeException ev).snapshot = if s.recordsReturn ev then s.bu.saved else s.snapshot := rfl
@[simp] theorem State.takeException_inject (s : State) (ev : Event) : (s.takeException ev).inject = s.inject := rfl
@[simp] theorem State.takeException_pending (s : State) (ev : Event) :
    (s.takeException ev).pending = s.pending.after ev := rfl
@[simp] theorem State.takeException_inputs (s : State) (ev : Event) : (s.takeException ev).inputs = s.inputs := rfl
@[simp] theorem State.takeException_map (s : State) (ev : Event) : (s.takeException ev).map = s.map := rfl
@[simp] theorem State.takeException_mem (s : State) (ev : Event) : (s.takeException ev).mem = s.mem := rfl
@[simp] theorem State.takeException_cfg (s : State) (ev : Event) : (s.takeException ev).cfg = s.cfg := rfl
@[simp] theorem State.takeException_draws (s : State) (ev : Event) : (s.takeException ev).draws = s.draws := rfl

@[simp] theorem State.takeException_readReg (s : State) (ev : Event) (q : Reg) :
    (s.takeException ev).readReg q = s.readReg q := rfl

@[simp] theorem State.returnFromException_gpr (s : State) : (s.returnFromException).gpr = s.gpr := rfl
@[simp] theorem State.returnFromException_hi (s : State) : (s.returnFromException).hi = s.hi := rfl
@[simp] theorem State.returnFromException_lo (s : State) : (s.returnFromException).lo = s.lo := rfl
@[simp] theorem State.returnFromException_pc (s : State) :
    (s.returnFromException).pc = if s.erl then s.cop0.errorEpc else s.cop0.epc := rfl
@[simp] theorem State.returnFromException_fpr (s : State) : (s.returnFromException).fpr = s.fpr := rfl
@[simp] theorem State.returnFromException_fcr31 (s : State) : (s.returnFromException).fcr31 = s.fcr31 := rfl
@[simp] theorem State.returnFromException_llBit (s : State) : (s.returnFromException).llBit = false := rfl
@[simp] theorem State.returnFromException_bu (s : State) : (s.returnFromException).bu = s.snapshot := rfl
@[simp] theorem State.returnFromException_snapshot (s : State) :
    (s.returnFromException).snapshot = BranchUnit.clear := rfl
@[simp] theorem State.returnFromException_inject (s : State) : (s.returnFromException).inject = s.inject := rfl
@[simp] theorem State.returnFromException_pending (s : State) : (s.returnFromException).pending = s.pending := rfl
@[simp] theorem State.returnFromException_inputs (s : State) : (s.returnFromException).inputs = s.inputs := rfl
@[simp] theorem State.returnFromException_map (s : State) : (s.returnFromException).map = s.map := rfl
@[simp] theorem State.returnFromException_mem (s : State) : (s.returnFromException).mem = s.mem := rfl
@[simp] theorem State.returnFromException_cfg (s : State) : (s.returnFromException).cfg = s.cfg := rfl
@[simp] theorem State.returnFromException_draws (s : State) : (s.returnFromException).draws = s.draws := rfl

@[simp] theorem State.returnFromException_readReg (s : State) (q : Reg) :
    (s.returnFromException).readReg q = s.readReg q := rfl

@[simp] theorem State.timer_gpr (s : State) : (s.timer).gpr = s.gpr := rfl
@[simp] theorem State.timer_hi (s : State) : (s.timer).hi = s.hi := rfl
@[simp] theorem State.timer_lo (s : State) : (s.timer).lo = s.lo := rfl
@[simp] theorem State.timer_pc (s : State) : (s.timer).pc = s.pc := rfl
@[simp] theorem State.timer_fpr (s : State) : (s.timer).fpr = s.fpr := rfl
@[simp] theorem State.timer_fcr31 (s : State) : (s.timer).fcr31 = s.fcr31 := rfl
@[simp] theorem State.timer_llBit (s : State) : (s.timer).llBit = s.llBit := rfl
@[simp] theorem State.timer_bu (s : State) : (s.timer).bu = s.bu := rfl
@[simp] theorem State.timer_snapshot (s : State) : (s.timer).snapshot = s.snapshot := rfl
@[simp] theorem State.timer_inject (s : State) : (s.timer).inject = s.inject := rfl
@[simp] theorem State.timer_pending (s : State) : (s.timer).pending = s.pending := rfl
@[simp] theorem State.timer_inputs (s : State) : (s.timer).inputs = s.inputs := rfl
@[simp] theorem State.timer_map (s : State) : (s.timer).map = s.map := rfl
@[simp] theorem State.timer_mem (s : State) : (s.timer).mem = s.mem := rfl
@[simp] theorem State.timer_cfg (s : State) : (s.timer).cfg = s.cfg := rfl
@[simp] theorem State.timer_draws (s : State) : (s.timer).draws = s.draws := rfl

@[simp] theorem State.timer_readReg (s : State) (q : Reg) :
    (s.timer).readReg q = s.readReg q := rfl

@[simp] theorem State.sampleInputs_gpr (s : State) : (s.sampleInputs).gpr = s.gpr := rfl
@[simp] theorem State.sampleInputs_hi (s : State) : (s.sampleInputs).hi = s.hi := rfl
@[simp] theorem State.sampleInputs_lo (s : State) : (s.sampleInputs).lo = s.lo := rfl
@[simp] theorem State.sampleInputs_pc (s : State) : (s.sampleInputs).pc = s.pc := rfl
@[simp] theorem State.sampleInputs_fpr (s : State) : (s.sampleInputs).fpr = s.fpr := rfl
@[simp] theorem State.sampleInputs_fcr31 (s : State) : (s.sampleInputs).fcr31 = s.fcr31 := rfl
@[simp] theorem State.sampleInputs_llBit (s : State) : (s.sampleInputs).llBit = s.llBit := rfl
@[simp] theorem State.sampleInputs_bu (s : State) : (s.sampleInputs).bu = s.bu := rfl
@[simp] theorem State.sampleInputs_snapshot (s : State) : (s.sampleInputs).snapshot = s.snapshot := rfl
@[simp] theorem State.sampleInputs_inject (s : State) : (s.sampleInputs).inject = s.inject := rfl
@[simp] theorem State.sampleInputs_inputs (s : State) : (s.sampleInputs).inputs = s.inputs := rfl
@[simp] theorem State.sampleInputs_map (s : State) : (s.sampleInputs).map = s.map := rfl
@[simp] theorem State.sampleInputs_mem (s : State) : (s.sampleInputs).mem = s.mem := rfl
@[simp] theorem State.sampleInputs_cfg (s : State) : (s.sampleInputs).cfg = s.cfg := rfl
@[simp] theorem State.sampleInputs_draws (s : State) : (s.sampleInputs).draws = s.draws := rfl

@[simp] theorem State.sampleInputs_readReg (s : State) (q : Reg) :
    (s.sampleInputs).readReg q = s.readReg q := rfl

@[simp] theorem State.skipSlot_gpr (s : State) : (s.skipSlot).gpr = s.gpr := rfl
@[simp] theorem State.skipSlot_hi (s : State) : (s.skipSlot).hi = s.hi := rfl
@[simp] theorem State.skipSlot_lo (s : State) : (s.skipSlot).lo = s.lo := rfl
@[simp] theorem State.skipSlot_pc (s : State) : (s.skipSlot).pc = s.pc + 4 := rfl
@[simp] theorem State.skipSlot_fpr (s : State) : (s.skipSlot).fpr = s.fpr := rfl
@[simp] theorem State.skipSlot_fcr31 (s : State) : (s.skipSlot).fcr31 = s.fcr31 := rfl
@[simp] theorem State.skipSlot_llBit (s : State) : (s.skipSlot).llBit = s.llBit := rfl
@[simp] theorem State.skipSlot_snapshot (s : State) : (s.skipSlot).snapshot = s.snapshot := rfl
@[simp] theorem State.skipSlot_inject (s : State) : (s.skipSlot).inject = s.inject := rfl
@[simp] theorem State.skipSlot_pending (s : State) : (s.skipSlot).pending = s.pending := rfl
@[simp] theorem State.skipSlot_inputs (s : State) : (s.skipSlot).inputs = s.inputs := rfl
@[simp] theorem State.skipSlot_cop0 (s : State) : (s.skipSlot).cop0 = s.cop0 := rfl
@[simp] theorem State.skipSlot_map (s : State) : (s.skipSlot).map = s.map := rfl
@[simp] theorem State.skipSlot_mem (s : State) : (s.skipSlot).mem = s.mem := rfl
@[simp] theorem State.skipSlot_cfg (s : State) : (s.skipSlot).cfg = s.cfg := rfl
@[simp] theorem State.skipSlot_draws (s : State) : (s.skipSlot).draws = s.draws := rfl

@[simp] theorem State.skipSlot_readReg (s : State) (q : Reg) :
    (s.skipSlot).readReg q = s.readReg q := rfl

/-- A register read after a write: the value where the number is the written one and not 0 (R21). -/
theorem State.readReg_writeReg (s : State) (r q : Reg) (v : Dword) :
    (s.writeReg r v).readReg q = if q = r ∧ r ≠ 0#5 then v else s.readReg q := by
  by_cases hq : q = 0#5
  · subst hq
    simp only [State.readReg, if_true]
    split
    · rename_i h; exact absurd h.1.symm h.2
    · rfl
  · by_cases hr : r = 0#5
    · simp [State.readReg, State.writeReg, hr]
    · by_cases h : q = r
      · subst h; simp [State.readReg, State.writeReg, hr]
      · have hn : r.toNat ≠ q.toNat := fun e => h (BitVec.eq_of_toNat_eq e.symm)
        simp only [State.readReg, State.writeReg, hq, hr, h, if_false, false_and]
        exact Vector.getElem_set_ne (by omega) (by omega) hn

/-- Register 0 reads as zero in every state (R21). -/
@[simp] theorem State.readReg_zero (s : State) : s.readReg 0 = 0 := rfl

/-- A doubleword view read after a write of one. -/
theorem State.readFD_writeFD (s : State) (i j : Reg) (v : Dword) :
    (s.writeFD i v).readFD j = if j = i then v else s.readFD j := by
  by_cases h : j = i
  · subst h; simp [State.readFD, State.writeFD]
  · have hn : i.toNat ≠ j.toNat := fun e => h (BitVec.eq_of_toNat_eq e.symm)
    simp only [State.readFD, State.writeFD, h, if_false]
    exact Vector.getElem_set_ne (by omega) (by omega) hn

/-- A word view read back after it is written. -/
theorem State.readFW_writeFW_self (s : State) (i : Reg) (v : Word) : (s.writeFW i v).readFW i = v := by
  have hc : (s.writeFW i v).fpr[(s.fpCell i).toNat] =
      if s.upperHalf i then v ++ (s.fpr[(s.fpCell i).toNat]).extractLsb' 0 32
      else (s.fpr[(s.fpCell i).toNat]).extractLsb' 32 32 ++ v := Vector.getElem_set_self _
  change (if s.upperHalf i then ((s.writeFW i v).fpr[(s.fpCell i).toNat]).extractLsb' 32 32
    else ((s.writeFW i v).fpr[(s.fpCell i).toNat]).extractLsb' 0 32) = v
  rw [hc]
  split
  · exact BitVec.extractLsb'_append_eq_left
  · rw [BitVec.extractLsb'_append_eq_of_add_le (by decide)]; simp

/-- Bit 15, 10 or 12 of Cause and the like: a bit read after it is set. -/
theorem getLsbD_setBit (w : Word) (i j : Nat) (b : Bool) (hi : i < 32) :
    (setBit w i b).getLsbD j = if j = i then b else w.getLsbD j := by
  unfold setBit
  by_cases hj : j = i
  · subst hj; cases b <;> simp [hi]
  · have : ¬ i = j := fun e => hj e.symm
    cases b <;> simp [hj, this, BitVec.getLsbD_twoPow]
    intro h; exact BitVec.lt_of_getLsbD h

/-- A bit of a masked merge (R285). -/
theorem getLsbD_mergeMask {n : Nat} (old v mask : BitVec n) (i : Nat) :
    (mergeMask old v mask).getLsbD i = if mask.getLsbD i then v.getLsbD i else old.getLsbD i := by
  by_cases h : i < n
  · simp only [mergeMask, BitVec.getLsbD_or, BitVec.getLsbD_and, BitVec.getLsbD_not, h, decide_true, Bool.true_and]
    cases mask.getLsbD i <;> simp
  · simp [mergeMask, BitVec.getLsbD_of_ge, Nat.le_of_not_lt h]

end Sys2Proof.Machine
end

