-- ==== Sys2Proof/Laws/Ops.lean ====
section
/-! SUPPORT. What each shared operation can answer, said once: `Holds P a` says that every next state the answer `a`
gives satisfies `P`, and there is one lemma for each operation that a meaning is made of. A proof about every
instruction goes by cases and cites these; none unfolds an operation. -/

namespace Sys2Proof.Machine

/-- Every next state of the answer satisfies `P`. -/
def Holds (P : State → Prop) (a : Answer) : Prop := ∀ t, a = .next t → P t

variable {P : State → Prop} {s : State} {k : Answer}

theorem Holds.next (h : P s) : Holds P (.next s) := by
  intro t e
  cases e
  exact h

theorem Holds.fault (f : Fault) : Holds P (.fault f) := by
  intro t e
  cases e

theorem Holds.refused (r : Refusal) : Holds P (.refused r) := by
  intro t e
  cases e

theorem Holds.mono {Q : State → Prop} {a : Answer} (h : Holds P a) (w : ∀ t, P t → Q t) : Holds Q a :=
  fun t e => w t (h t e)

theorem Holds.raise (e : Exc) (h : P (s.recordException e)) : Holds P (raise e s) := Holds.next h

theorem Holds.complete (h : P s.advance) : Holds P (complete s) := Holds.next h

theorem Holds.withOp64 {f : Bool → Answer} (h : ∀ wide, s.op64? = some wide → Holds P (f wide)) :
    Holds P (withOp64 s f) := by
  unfold Machine.withOp64
  split
  · rename_i wide e
    exact h wide e
  · exact Holds.fault _

theorem Holds.gate64 (h : Holds P k) (r : P (s.recordException .reservedInstruction)) : Holds P (gate64 s k) :=
  Holds.withOp64 fun wide _ => by
    cases wide
    · exact Holds.raise _ r
    · exact h

theorem Holds.gateCop0 (h : Holds P k) (r : P (s.recordException (.coprocessorUnusable 0))) :
    Holds P (gateCop0 s k) := by
  unfold Machine.gateCop0
  repeat' split
  all_goals first
    | exact h
    | exact Holds.raise _ r
    | exact Holds.fault _

theorem Holds.gateCop1 (h : Holds P k) (r : P (s.recordException (.coprocessorUnusable 1))) :
    Holds P (gateCop1 s k) := by
  unfold Machine.gateCop1
  split
  · exact h
  · exact Holds.raise _ r

theorem Holds.gateDouble {i : Reg} (h : Holds P k) : Holds P (gateDouble s i k) := by
  unfold Machine.gateDouble
  split
  · exact h
  · exact Holds.fault _

theorem Holds.gateView {v : FpView} {i : Reg} (h : Holds P k) : Holds P (gateView s v i k) := by
  cases v
  · exact h
  · exact Holds.gateDouble h

theorem Holds.outsideDelaySlot (h : s.bu.branchDelayPending = false → Holds P k) : Holds P (outsideDelaySlot s k) := by
  unfold Machine.outsideDelaySlot
  split
  · exact Holds.refused _
  · rename_i e
    exact h (by simpa using e)

theorem Holds.withAddress {n : Nat} {x : Dword → Exc} {base : Reg} {offset : Half} {f : Dword → Answer}
    (h : ∀ va, Holds P (f va)) (r : ∀ va, P (s.recordException (x va))) : Holds P (withAddress n x base offset s f) :=
  Holds.withOp64 fun wide _ => by
    dsimp only
    split
    · exact Holds.raise _ (r _)
    · exact h _

/-- A refill is raised or requested, and nothing else happens. -/
theorem Holds.raiseRefill {kind : RefillKind} {store : Bool} (tlb : P (s.recordException (.tlbRefill store)))
    (xtlb : P (s.requestXtlb store)) : Holds P (raiseRefill kind store s) := by
  cases kind
  · exact Holds.raise _ tlb
  · exact Holds.next xtlb

/-- What an access that does not go through may leave, beyond a refusal: BusErrorData, or a refill of the stub, where the
configuration supplies one (R82, R113, R484). -/
structure AccessRaises (P : State → Prop) (s : State) (store : Bool) : Prop where
  bus : P (s.recordException .busErrorData)
  tlb : ∀ stub, s.cfg.tlbStub = some stub → P (s.recordException (.tlbRefill store))
  xtlb : ∀ stub, s.cfg.tlbStub = some stub → P (s.requestXtlb store)

theorem AccessRaises.refill {store : Bool} {a : Word} {kind : RefillKind} (h : AccessRaises P s store)
    (e : translate s.cfg a = .refill kind) : Holds P (Machine.raiseRefill kind store s) :=
  have ⟨_, stub, hs⟩ := translate_refill e
  Holds.raiseRefill (h.tlb stub hs) (h.xtlb stub hs)

/-- A read goes on from the state itself or from the state with one free value drawn. -/
theorem Holds.readThen {store : Bool} {a : Word} {n : Nat} {f : Dword → State → Answer}
    (h : ∀ v t, memRead s a n = .ok v t → (t = s ∨ t = { s with draws := s.draws + 1 }) → Holds P (f v t))
    (r : AccessRaises P s store) : Holds P (readThen store s a n f) := by
  unfold Machine.readThen
  split
  · rename_i v t e
    exact h v t e (memRead_ok e)
  · exact Holds.raise _ r.bus
  · rename_i e
    exact r.refill (memRead_refill e)
  · exact Holds.refused _

/-- A load goes on from the state itself or from the state with one free value drawn. -/
theorem Holds.loadThen {a : Word} {n : Nat} {f : Dword → State → Answer}
    (h : ∀ v t, memRead s a n = .ok v t → (t = s ∨ t = { s with draws := s.draws + 1 }) → Holds P (f v t))
    (r : AccessRaises P s false) : Holds P (loadThen s a n f) := Holds.readThen h r

/-- A store changes memory alone, and keeps it canonical. -/
theorem Holds.storeThen {u : State} {a : Word} {n : Nat} {v : Dword} {f : State → Answer} (c : u.cfg = s.cfg)
    (h : ∀ m : Memory, (u.mem.wf = true → m.wf = true) → Holds P (f { u with mem := m }))
    (r : AccessRaises P s true) : Holds P (storeThen s u a n v f) := by
  unfold Machine.storeThen
  split
  · rename_i t e
    have w := fun h => memWrite_wf h e
    obtain ⟨_, _, _, _, _, _, rfl⟩ := memWrite_ok e
    exact h _ w
  · exact Holds.raise _ r.bus
  · rename_i e
    exact r.refill (c ▸ memWrite_refill e)
  · exact Holds.refused _

/-- A conditional branch: outside a delay slot only, to its delay slot. -/
theorem Holds.branch {c likely link : Bool} {offset : Half}
    (h : s.bu.branchDelayPending = false → P (s.branchEffect c likely link offset).toDelaySlot) :
    Holds P (branch c likely link offset s) := Holds.outsideDelaySlot fun e => Holds.next (h e)

/-- A jump: outside a delay slot only, to its delay slot. -/
theorem Holds.jump {target : Dword} {link : Option Reg}
    (h : s.bu.branchDelayPending = false → ∀ t, (t = s ∨ ∃ rd, t = s.writeReg rd s.linkAddress) →
      P (t.setBranch target true).toDelaySlot) : Holds P (jump target link s) := by
  refine Holds.outsideDelaySlot fun e => Holds.next ?_
  cases link with
  | none => exact h e s (Or.inl rfl)
  | some rd => exact h e _ (Or.inr ⟨rd, rfl⟩)

/-- Steps 4 to 7 of R392. -/
theorem Holds.fpCommit {x : Signals} {f : State → Answer}
    (h : Holds P (f { s with fcr31 := withFlags (withCause s.fcr31 (causeOfSignals x)) x }))
    (r : P (State.recordException { s with fcr31 := withCause s.fcr31 (causeOfSignals x) } .floatingPoint)) :
    Holds P (fpCommit s x f) := by
  unfold Machine.fpCommit
  dsimp only
  split
  · exact h
  · exact Holds.raise _ r

theorem Holds.writeResult {v : FpView} {fd : Reg} {bits : Dword} (h : P (s.writeView v fd bits).advance) :
    Holds P (writeResult v fd bits s) := Holds.gateView (Holds.complete h)

/-- Steps 3 to 7 of R392: the result with its exceptions recorded, or the trap with Cause alone changed. -/
theorem Holds.fpFinish {dst : FloatFormat} {v : FpView} {fd : Reg} {out : FpOut}
    (done : ∀ x d bits, P ((State.writeView
      { s with fcr31 := withFlags (withCause s.fcr31 (causeOfSignals x)) x, draws := d } v fd bits).advance))
    (raised : ∀ c, P (State.recordException { s with fcr31 := withCause s.fcr31 c } .floatingPoint)) :
    Holds P (fpFinish s dst v fd out) := by
  cases out with
  | result bits x => exact Holds.fpCommit (Holds.writeResult (done _ s.draws bits)) (raised _)
  | propagateNaN =>
    change Holds P (Machine.fpCommit s.draw.2 Signals.none _)
    unfold Machine.fpCommit
    dsimp only
    rw [if_pos (by simp [Signals.none])]
    exact Holds.writeResult (done 0 (s.draws + 1) _)
  | unimplemented => exact Holds.raise _ (raised _)

/-- A compare ends with FCR31 written and nothing else, or raises. -/
theorem Holds.fpCompare {f : FloatFormat} {cond : BitVec 4} {fs ft : Reg}
    (done : ∀ x b, P (State.advance
      { s with fcr31 := withConditionFlag (withFlags (withCause s.fcr31 (causeOfSignals x)) x) b }))
    (raised : ∀ x, P (State.recordException { s with fcr31 := withCause s.fcr31 (causeOfSignals x) } .floatingPoint))
    (unusable : P (s.recordException (.coprocessorUnusable 1))) : Holds P (fpCompare f cond fs ft s) :=
  Holds.gateCop1 (Holds.gateView (Holds.gateView (Holds.fpCommit (Holds.complete (done _ _)) (raised _)))) unusable

/-! ## The shapes that several instructions share -/

theorem Holds.finish32Checked {b : Bool} {r : Reg} {v : Word} (h : P (s.writeReg32 r v).advance)
    (o : P (s.recordException .overflow)) : Holds P (finish32Checked b r v s) := by
  unfold Machine.finish32Checked
  split
  · exact Holds.raise _ o
  · exact Holds.complete h

theorem Holds.finish64Checked {b : Bool} {r : Reg} {v : Dword} (h : P (s.writeReg r v).advance)
    (o : P (s.recordException .overflow)) : Holds P (finish64Checked b r v s) := by
  unfold Machine.finish64Checked
  split
  · exact Holds.raise _ o
  · exact Holds.complete h

theorem Holds.trapWhen {c : Bool} (h : P s.advance) (r : P (s.recordException .trap)) : Holds P (trapWhen c s) := by
  unfold Machine.trapWhen
  split
  · exact Holds.raise _ r
  · exact Holds.complete h

theorem Holds.loadAligned {n : Nat} {base : Reg} {offset : Half} {f : Dword → Dword → State → Answer}
    (h : ∀ va v t, (t = s ∨ t = { s with draws := s.draws + 1 }) → Holds P (f va v t))
    (address : ∀ va, P (s.recordException (.addressErrorLoad va))) (r : AccessRaises P s false) :
    Holds P (loadAligned n base offset s f) :=
  Holds.withAddress (fun va => Holds.loadThen (fun v t _ ht => h va v t ht) r) address

theorem Holds.storeAligned {n : Nat} {v : Dword} {base : Reg} {offset : Half}
    (h : ∀ m : Memory, (s.mem.wf = true → m.wf = true) → P (State.advance { s with mem := m }))
    (address : ∀ va, P (s.recordException (.addressErrorStore va))) (r : AccessRaises P s true) :
    Holds P (storeAligned n v base offset s) :=
  Holds.withAddress (fun _ => Holds.storeThen rfl (fun m w => Holds.complete (h m w)) r) address

theorem Holds.storeConditional {n : Nat} {v : Dword} {rt base : Reg} {offset : Half}
    (stored : s.llBit = true → ∀ m : Memory, (s.mem.wf = true → m.wf = true) →
      P (State.writeReg { s with mem := m } rt 1).advance)
    (dropped : s.llBit = false → P (s.writeReg rt 0).advance)
    (address : ∀ va, P (s.recordException (.addressErrorStore va))) (r : AccessRaises P s true) :
    Holds P (storeConditional n v rt base offset s) := by
  refine Holds.withAddress (fun va => ?_) address
  split
  · rename_i e
    exact Holds.storeThen rfl (fun m w => Holds.complete (stored e m w)) r
  · rename_i e
    exact Holds.complete (dropped (by simpa using e))

theorem Holds.loadMergedWord {f : Word → Word → Nat → Word} {rt base : Reg} {offset : Half}
    (h : ∀ v t, (t = s ∨ t = { s with draws := s.draws + 1 }) → P (t.writeReg32 rt v).advance)
    (r : AccessRaises P s false) : Holds P (loadMergedWord f rt base offset s) :=
  Holds.withOp64 fun _ _ => Holds.loadThen (fun _ t _ ht => Holds.complete (h _ t ht)) r

theorem Holds.loadMergedDword {f : Dword → Dword → Nat → Dword} {rt base : Reg} {offset : Half}
    (h : ∀ v t, (t = s ∨ t = { s with draws := s.draws + 1 }) → P (t.writeReg rt v).advance)
    (r : AccessRaises P s false) : Holds P (loadMergedDword f rt base offset s) :=
  Holds.withOp64 fun _ _ => Holds.loadThen (fun _ t _ ht => Holds.complete (h _ t ht)) r

/-- A read and a store of one datum change memory and, where the device's bytes are its own, the counter of free
values. -/
theorem Holds.readThenStore {a : Word} {n : Nat} {f : Dword → Dword}
    (h : ∀ (m : Memory) (d : Nat), (s.mem.wf = true → m.wf = true) → P (State.advance { s with mem := m, draws := d }))
    (r : AccessRaises P s true) :
    Holds P (Machine.readThen true s a n fun m t => Machine.storeThen s t a n (f m) Machine.complete) := by
  refine Holds.readThen (fun m t _ ht => ?_) r
  rcases ht with rfl | rfl
  · exact Holds.storeThen rfl (fun m w => Holds.complete (h m _ w)) r
  · exact Holds.storeThen rfl (fun m w => Holds.complete (h m _ w)) r

/-- A merged store changes memory and, where the device's bytes are its own, the counter of free values. -/
theorem Holds.storeMergedWord {f : Word → Word → Nat → Word} {rt base : Reg} {offset : Half}
    (h : ∀ (m : Memory) (d : Nat), (s.mem.wf = true → m.wf = true) → P (State.advance { s with mem := m, draws := d }))
    (r : AccessRaises P s true) : Holds P (storeMergedWord f rt base offset s) :=
  Holds.withOp64 fun _ _ => Holds.readThenStore (f := fun m => zext64 (f (trunc32 m) _ _)) h r

theorem Holds.storeMergedDword {f : Dword → Dword → Nat → Dword} {rt base : Reg} {offset : Half}
    (h : ∀ (m : Memory) (d : Nat), (s.mem.wf = true → m.wf = true) → P (State.advance { s with mem := m, draws := d }))
    (r : AccessRaises P s true) : Holds P (storeMergedDword f rt base offset s) :=
  Holds.withOp64 fun _ _ => Holds.readThenStore (f := fun m => f m _ _) h r

theorem Holds.outsideBlockTlb (r : P (s.recordException (.coprocessorUnusable 0))) : Holds P (outsideBlockTlb s) :=
  Holds.gateCop0 (Holds.refused _) r

theorem Holds.fpUnary {src : FpView} {dst : FloatFormat} {v : FpView} {op : Numerics → Bool → Rounding → Dword → FpOut}
    {fd fs : Reg} (done : ∀ x d bits, P ((State.writeView
      { s with fcr31 := withFlags (withCause s.fcr31 (causeOfSignals x)) x, draws := d } v fd bits).advance))
    (raised : ∀ c, P (State.recordException { s with fcr31 := withCause s.fcr31 c } .floatingPoint))
    (unusable : P (s.recordException (.coprocessorUnusable 1))) : Holds P (fpUnary src dst v op fd fs s) :=
  Holds.gateCop1 (Holds.gateView (Holds.fpFinish done raised)) unusable

theorem Holds.fpBinary {f : FloatFormat} {op : Numerics → Bool → Rounding → Dword → Dword → FpOut} {fd fs ft : Reg}
    (done : ∀ x d bits, P ((State.writeView
      { s with fcr31 := withFlags (withCause s.fcr31 (causeOfSignals x)) x, draws := d } f.view fd bits).advance))
    (raised : ∀ c, P (State.recordException { s with fcr31 := withCause s.fcr31 c } .floatingPoint))
    (unusable : P (s.recordException (.coprocessorUnusable 1))) : Holds P (fpBinary f op fd fs ft s) :=
  Holds.gateCop1 (Holds.gateView (Holds.gateView (Holds.fpFinish done raised))) unusable

theorem Holds.fpMove {v : FpView} {fd fs : Reg} (h : ∀ bits, P (s.writeView v fd bits).advance)
    (unusable : P (s.recordException (.coprocessorUnusable 1))) : Holds P (fpMove v fd fs s) :=
  Holds.gateCop1 (Holds.gateView (Holds.writeResult (h _))) unusable

/-- What a branch leaves: general registers but the link, and the branch unit. -/
theorem branchEffect_eq (s : State) (c likely link : Bool) (offset : Half) :
    s.branchEffect c likely link offset =
      { s with
        gpr := (if link then s.writeReg 31 s.linkAddress else s).gpr
        bu := (s.branchEffect c likely link offset).bu } := by
  unfold State.branchEffect
  cases c <;> cases likely <;> cases link <;> rfl

/-- The branch unit after a branch is one of three: taken, nullified, as it was. -/
theorem branchEffect_bu (s : State) (c likely link : Bool) (offset : Half) :
    (s.branchEffect c likely link offset).bu =
      if c then { s.bu with
        targetAddress := s.branchTarget offset, takeBranch := true, branchDelayPending := true,
        unconditionalJump := false }
      else if likely then { s.bu with nullifyNext := true } else s.bu := by
  cases c <;> cases likely <;> cases link <;> rfl

/-- A read of a coprocessor-0 register draws one free value or leaves the machine as it is. -/
theorem readC0_state (s : State) (n : Reg) : (s.readC0 n).2 = s ∨ (s.readC0 n).2 = { s with draws := s.draws + 1 } := by
  unfold State.readC0
  split <;> first | exact Or.inl rfl | exact Or.inr rfl

/-- A read of a floating-point control register draws one free value or leaves the machine as it is. -/
theorem readFCR_state (s : State) (n : Reg) :
    (s.readFCR n).2 = s ∨ (s.readFCR n).2 = { s with draws := s.draws + 1 } := by
  unfold State.readFCR
  repeat' split
  all_goals first | exact Or.inl rfl | exact Or.inr rfl

section
variable (f : Word) (c : BitVec 6) (x : Signals) (b : Bool)

/-- Only the Cause field is written, bit by bit (R392). -/
theorem withCause_getLsbD (k : Nat) :
    (withCause f c).getLsbD k = if 12 ≤ k ∧ k ≤ 17 then c.getLsbD (k - 12) else f.getLsbD k := by
  by_cases hk : k < 32
  · interval_cases k <;> simp [withCause]
  · rw [BitVec.getLsbD_of_ge _ _ (by omega), BitVec.getLsbD_of_ge f _ (by omega), if_neg (by omega)]

/-- Only the Flags field grows, bit by bit (R392 step 6). -/
theorem withFlags_getLsbD (k : Nat) :
    (withFlags f x).getLsbD k = if 2 ≤ k ∧ k ≤ 6 then f.getLsbD k || x.getLsbD (k - 2) else f.getLsbD k := by
  by_cases hk : k < 32
  · interval_cases k <;> simp [withFlags]
  · rw [BitVec.getLsbD_of_ge _ _ (by omega), BitVec.getLsbD_of_ge f _ (by omega), if_neg (by omega)]

/-- Only the condition flag is written (R36). -/
theorem withConditionFlag_getLsbD (k : Nat) :
    (withConditionFlag f b).getLsbD k = if k = 23 then b else f.getLsbD k := by
  by_cases hk : k < 32
  · cases b <;> interval_cases k <;> simp [withConditionFlag]
  · rw [BitVec.getLsbD_of_ge _ _ (by omega), BitVec.getLsbD_of_ge f _ (by omega), if_neg (by omega)]

/-- A write to a view of a floating-point register writes the bank alone. -/
theorem writeView_eq (s : State) (v : FpView) (i : Reg) (y : Dword) :
    s.writeView v i y = { s with fpr := (s.writeView v i y).fpr } := by cases v <;> rfl

end

section
variable (c : Cop0) (n : Reg) (v : Dword)

@[simp] theorem Cop0.write_random : (c.write n v).random = c.random := by unfold Cop0.write; split <;> rfl
@[simp] theorem Cop0.write_badVAddr : (c.write n v).badVAddr = c.badVAddr := by unfold Cop0.write; split <;> rfl

end

/-! ## Taking and leaving an exception: one lemma per coprocessor-0 field -/

section
variable (s : State) (ev : Event)

@[simp] theorem takeException_epc :
    (s.takeException ev).cop0.epc = if ev.errorLevel || s.exl then s.cop0.epc else s.returnAddress := rfl
@[simp] theorem takeException_errorEpc :
    (s.takeException ev).cop0.errorEpc = if ev.errorLevel then s.returnAddress else s.cop0.errorEpc := rfl
@[simp] theorem takeException_cause : (s.takeException ev).cop0.cause = s.causeAfter ev := rfl
@[simp] theorem takeException_status : (s.takeException ev).cop0.status = s.statusAfter ev := rfl
@[simp] theorem takeException_count : (s.takeException ev).cop0.count = s.cop0.count := rfl
@[simp] theorem takeException_compare : (s.takeException ev).cop0.compare = s.cop0.compare := rfl
@[simp] theorem takeException_badVAddr : (s.takeException ev).cop0.badVAddr = s.cop0.badVAddr := rfl
@[simp] theorem returnFromException_status :
    s.returnFromException.cop0.status = setBit s.cop0.status (if s.erl then 2 else 1) false := rfl

end

end Sys2Proof.Machine
end

