-- ==== Sys2Proof/Laws/Step.lean ====
section
/-! SUPPORT. What a Step can do, by phase (R160 to R168): the tick keeps everything but the fields it names, and a Step
is a skipped slot, an injected instruction or a fetched one. -/

namespace Sys2Proof.Machine

/-- What was decoded, run: one case for an instruction and one for each pseudo-instruction. -/
theorem Holds.execDecoded {P : State → Prop} {s : State} {d : Decoded} (instr : ∀ i, d = .instr i → Holds P (exec i s))
    (reserved : P (s.recordException .reservedInstruction))
    (unusable1 : P (s.recordException (.coprocessorUnusable 1)))
    (unimplemented : P (State.recordException { s with fcr31 := withCause s.fcr31 causeUnimplemented } .floatingPoint))
    (unusable2 : P (s.recordException (.coprocessorUnusable 2))) : Holds P (execDecoded d s) := by
  cases d with
  | instr i => exact instr i rfl
  | reserved => exact Holds.raise _ reserved
  | fpUnimplementedFormat => exact Holds.gateCop1 (Holds.raise _ unimplemented) unusable1
  | cop2 =>
    change Holds P (execCop2 s)
    unfold execCop2
    split
    · exact Holds.raise _ reserved
    · exact Holds.raise _ unusable2

/-- A fetch goes on from the state itself or from the state with one free value drawn, or raises. -/
theorem Holds.fetchThen {P : State → Prop} {s : State} {f : Word → State → Answer}
    (h : ∀ v t, memRead s (trunc32 s.pc) 4 = .ok v t → (t = s ∨ t = { s with draws := s.draws + 1 }) →
      Holds P (f (trunc32 v) t))
    (address : P (s.recordException (.addressErrorLoad s.pc))) (bus : P (s.recordException .busErrorFetch))
    (tlb : ∀ stub, s.cfg.tlbStub = some stub → P (s.recordException (.tlbRefill false)))
    (xtlb : ∀ stub, s.cfg.tlbStub = some stub → P (s.requestXtlb false)) : Holds P (fetchThen s f) := by
  unfold Machine.fetchThen
  split
  · exact Holds.raise _ address
  · split
    · rename_i v t e
      exact h v t e (memRead_ok e)
    · exact Holds.raise _ bus
    · rename_i e
      obtain ⟨_, stub, hs⟩ := translate_refill (memRead_refill e)
      exact Holds.raiseRefill (tlb stub hs) (xtlb stub hs)
    · exact Holds.refused _

/-- A Step is a skipped slot, an injected instruction or a fetched one, after the tick. -/
theorem Holds.step {P : State → Prop} {s : State}
    (skip : s.tick.bu.nullifyNext = true → P s.tick.skipSlot)
    (inject : s.tick.bu.nullifyNext = false → ∀ w, s.tick.inject = some w →
      Holds P (Machine.execDecoded (decode w) { s.tick with inject := none }))
    (fetch : s.tick.bu.nullifyNext = false → s.tick.inject = none →
      Holds P (Machine.fetchThen s.tick fun w t => Machine.execDecoded (decode w) t)) : Holds P (Machine.step s) := by
  unfold Machine.step stepPhases
  split
  · exact Holds.fault _
  · unfold afterTick
    split
    · rename_i e
      exact Holds.next (skip e)
    · rename_i e
      have e' : s.tick.bu.nullifyNext = false := by simpa using e
      split
      · rename_i w ei
        exact inject e' w ei
      · rename_i ei
        exact fetch e' ei

/-- The tick is the timer and the sampled inputs, then at most one exception taken. -/
theorem tick_cases (s : State) :
    s.tick = s.timer.sampleInputs ∨ ∃ ev, s.timer.sampleInputs.chooseEvent = some ev ∧
      s.tick = s.timer.sampleInputs.takeException ev := by
  unfold State.tick
  dsimp only
  split
  · rename_i ev e
    exact Or.inr ⟨ev, e, rfl⟩
  · exact Or.inl rfl

section
variable (s : State)

@[simp] theorem tick_gpr : s.tick.gpr = s.gpr := by rcases tick_cases s with h | ⟨_, _, h⟩ <;> rw [h] <;> rfl
@[simp] theorem tick_hi : s.tick.hi = s.hi := by rcases tick_cases s with h | ⟨_, _, h⟩ <;> rw [h] <;> rfl
@[simp] theorem tick_lo : s.tick.lo = s.lo := by rcases tick_cases s with h | ⟨_, _, h⟩ <;> rw [h] <;> rfl
@[simp] theorem tick_fpr : s.tick.fpr = s.fpr := by rcases tick_cases s with h | ⟨_, _, h⟩ <;> rw [h] <;> rfl
@[simp] theorem tick_fcr31 : s.tick.fcr31 = s.fcr31 := by rcases tick_cases s with h | ⟨_, _, h⟩ <;> rw [h] <;> rfl
@[simp] theorem tick_llBit : s.tick.llBit = s.llBit := by rcases tick_cases s with h | ⟨_, _, h⟩ <;> rw [h] <;> rfl
@[simp] theorem tick_inject : s.tick.inject = s.inject := by rcases tick_cases s with h | ⟨_, _, h⟩ <;> rw [h] <;> rfl
@[simp] theorem tick_inputs : s.tick.inputs = s.inputs := by rcases tick_cases s with h | ⟨_, _, h⟩ <;> rw [h] <;> rfl
@[simp] theorem tick_map : s.tick.map = s.map := by rcases tick_cases s with h | ⟨_, _, h⟩ <;> rw [h] <;> rfl
@[simp] theorem tick_mem : s.tick.mem = s.mem := by rcases tick_cases s with h | ⟨_, _, h⟩ <;> rw [h] <;> rfl
@[simp] theorem tick_cfg : s.tick.cfg = s.cfg := by rcases tick_cases s with h | ⟨_, _, h⟩ <;> rw [h] <;> rfl
@[simp] theorem tick_draws : s.tick.draws = s.draws := by rcases tick_cases s with h | ⟨_, _, h⟩ <;> rw [h] <;> rfl

end

end Sys2Proof.Machine
end

