-- ==== Sys2Proof/Laws/Invariant.lean ====
section
/-! SUPPORT. The small facts about the parts of the invariant of Safety.lean: the branch unit under each of its updates,
the reserved and the fixed bits under each write, FCR31 under each of its updates. -/

namespace Sys2Proof.Machine

/-! ## The branch unit (R39, R508) -/

theorem BranchUnit.clear_legalSnapshot : BranchUnit.clear.legalSnapshot = true := rfl

theorem BranchUnit.legal_of_legalSnapshot {b : BranchUnit} (h : b.legalSnapshot = true) : b.legal = true := by
  unfold BranchUnit.legal
  unfold BranchUnit.legalSnapshot at h
  rw [h]
  rfl

theorem BranchUnit.afterAdvance_legal {b : BranchUnit} (h : b.legal = true) : b.afterAdvance.legal = true := by
  unfold BranchUnit.afterAdvance
  split
  · simp [BranchUnit.legal]
  · exact h

theorem BranchUnit.saved_legalSnapshot {b : BranchUnit} (h : b.legal = true) : b.saved.legalSnapshot = true := by
  obtain ⟨take, pending, jump, target, nullify⟩ := b
  cases take <;> cases pending <;> cases jump <;> simp_all [BranchUnit.saved, BranchUnit.legal, BranchUnit.legalSnapshot]

theorem BranchUnit.skip_legal {b : BranchUnit} (h : b.legal = true) (n : b.nullifyNext = true) :
    BranchUnit.legal { b with nullifyNext := false } = true := by
  obtain ⟨take, pending, jump, target, nullify⟩ := b
  cases take <;> cases pending <;> cases jump <;> simp_all [BranchUnit.legal]

theorem branchEffect_legal (s : State) (c likely link : Bool) (offset : Half) (h : s.bu.legal = true)
    (outside : s.bu.branchDelayPending = false) (n : s.bu.nullifyNext = false) :
    (s.branchEffect c likely link offset).bu.legal = true := by
  rw [branchEffect_bu]
  generalize s.bu = b at *
  obtain ⟨take, pending, jump, target, nullify⟩ := b
  cases c <;> cases likely <;> simp_all [BranchUnit.legal]

/-! ## Reserved bits (R35, R45 to R71) -/

/-- A masked write keeps the bits outside its mask zero. -/
theorem mergeMask_reserved {n : Nat} {old v mask reserved : BitVec n} (h : old &&& reserved = 0)
    (m : mask &&& reserved = 0) : mergeMask old v mask &&& reserved = 0 := by
  apply BitVec.eq_of_getLsbD_eq
  intro k hk
  have a := congrArg (fun x => BitVec.getLsbD x k) h
  have b := congrArg (fun x => BitVec.getLsbD x k) m
  simp [mergeMask] at *
  grind

/-- Clearing a bit keeps zero bits zero. -/
theorem setBit_false_reserved {w reserved : Word} {i : Nat} (h : w &&& reserved = 0) :
    setBit w i false &&& reserved = 0 := by
  apply BitVec.eq_of_getLsbD_eq
  intro k hk
  have a := congrArg (fun x => BitVec.getLsbD x k) h
  simp [setBit] at *
  grind

/-- Setting a bit outside the reserved ones keeps those zero. -/
theorem setBit_reserved {w reserved : Word} {i : Nat} {b : Bool} (h : w &&& reserved = 0)
    (m : BitVec.twoPow 32 i &&& reserved = 0) : setBit w i b &&& reserved = 0 := by
  cases b
  · exact setBit_false_reserved h
  · apply BitVec.eq_of_getLsbD_eq
    intro k hk
    have a := congrArg (fun x => BitVec.getLsbD x k) h
    have c := congrArg (fun x => BitVec.getLsbD x k) m
    simp [setBit] at *
    grind

/-- `C0Write` keeps every reserved bit zero (R285). -/
theorem Cop0.write_reservedZero {c : Cop0} (n : Reg) (v : Dword) (h : c.reservedZero = true) :
    (c.write n v).reservedZero = true := by
  simp only [Cop0.reservedZero, Bool.and_eq_true, decide_eq_true_eq] at h ⊢
  unfold Cop0.write
  split <;> dsimp only <;>
    (refine ⟨⟨⟨⟨⟨⟨⟨⟨⟨⟨⟨⟨⟨?_, ?_⟩, ?_⟩, ?_⟩, ?_⟩, ?_⟩, ?_⟩, ?_⟩, ?_⟩, ?_⟩, ?_⟩, ?_⟩, ?_⟩, ?_⟩ <;>
      first | tauto | exact mergeMask_reserved (by tauto) (by decide) | exact setBit_false_reserved (by tauto))

/-- `C0Write` keeps every bit of a register that its mask leaves out. -/
theorem mergeMask_fixed {n : Nat} {old v mask fixed value : BitVec n} (h : old &&& fixed = value)
    (m : mask &&& fixed = 0) : mergeMask old v mask &&& fixed = value := by
  rw [← h]
  apply BitVec.eq_of_getLsbD_eq
  intro k hk
  have b := congrArg (fun x => BitVec.getLsbD x k) m
  simp [mergeMask] at *
  grind

/-- The fixed bits of Config after reset (R62). -/
theorem configRegister_fixed (c : Config) : c.configRegister &&& configFixedMask = configFixed := by
  apply BitVec.eq_of_getLsbD_eq
  intro k hk
  simp only [Config.configRegister, configFixedMask, configFixed, BitVec.getLsbD_and, BitVec.getLsbD_or,
    BitVec.getLsbD_not, hk]
  interval_cases k <;> simp

/-- `C0Write` keeps the fixed bits of Config (R62, R285). -/
theorem Cop0.write_config {c : Cop0} (n : Reg) (v : Dword) (h : c.config &&& configFixedMask = configFixed) :
    (c.write n v).config &&& configFixedMask = configFixed := by
  unfold Cop0.write
  split <;> first | exact h | exact mergeMask_fixed h (by decide)

/-- The bits of FCR31 outside its fields are zero, bit by bit (R35). -/
theorem fcr31_reserved_iff (f : Word) :
    f &&& ~~~fcr31Mask = 0 ↔ ∀ k, k < 32 → fcr31Mask.getLsbD k = false → f.getLsbD k = false := by
  constructor
  · intro h k hk hm
    have a := congrArg (fun x => BitVec.getLsbD x k) h
    simp only [BitVec.getLsbD_and, BitVec.getLsbD_not, hm, hk] at a
    simpa using a
  · intro h
    apply BitVec.eq_of_getLsbD_eq
    intro k hk
    by_cases hm : fcr31Mask.getLsbD k = true
    · simp [hm]
    · simp [h k hk (by simpa using hm)]

theorem fcr31Mask_fields {k : Nat} (hk : k < 32) (h : fcr31Mask.getLsbD k = false) :
    ¬(12 ≤ k ∧ k ≤ 17) ∧ ¬(2 ≤ k ∧ k ≤ 6) ∧ k ≠ 23 := by
  revert h
  simp only [fcr31Mask]
  interval_cases k <;> simp

theorem withCause_reserved {f : Word} {c : BitVec 6} (h : f &&& ~~~fcr31Mask = 0) :
    withCause f c &&& ~~~fcr31Mask = 0 := by
  rw [fcr31_reserved_iff] at *
  intro k hk hm
  rw [withCause_getLsbD, if_neg (fcr31Mask_fields hk hm).1]
  exact h k hk hm

theorem withFlags_reserved {f : Word} {x : Signals} (h : f &&& ~~~fcr31Mask = 0) :
    withFlags f x &&& ~~~fcr31Mask = 0 := by
  rw [fcr31_reserved_iff] at *
  intro k hk hm
  rw [withFlags_getLsbD, if_neg (fcr31Mask_fields hk hm).2.1]
  exact h k hk hm

theorem withConditionFlag_reserved {f : Word} {b : Bool} (h : f &&& ~~~fcr31Mask = 0) :
    withConditionFlag f b &&& ~~~fcr31Mask = 0 := by
  rw [fcr31_reserved_iff] at *
  intro k hk hm
  rw [withConditionFlag_getLsbD, if_neg (fcr31Mask_fields hk hm).2.2]
  exact h k hk hm

end Sys2Proof.Machine
end

