-- ==== Sys2Proof/Tests/Slice0.lean ====
section
/-! SUPPORT. The model's own tests. Every expected value is from the spec: a word from the encoding of its rule, a result
from the example of the cited rule or the cited vector of 95_test_vectors.md. The second part shows, for every
statement with hypotheses, a state and operands that meet them. -/

namespace Sys2Proof.Tests

open Sys2Proof.Machine

set_option Elab.async false

/-! ## Decoding: one word for every constructor (R122, R128 to R133) -/

theorem test_decode_integer_add_subtract :
    decode 0b00000001001010100100000000100000#32 = .instr (.add 8 9 10) ∧
    decode 0x012A4021#32 = .instr (.addu 8 9 10) ∧ decode 0x012A4022#32 = .instr (.sub 8 9 10) ∧
    decode 0x012A4023#32 = .instr (.subu 8 9 10) ∧ decode 0x212A8001#32 = .instr (.addi 10 9 0x8001) ∧
    decode 0x252A8001#32 = .instr (.addiu 10 9 0x8001) ∧ decode 0x012A402C#32 = .instr (.dadd 8 9 10) ∧
    decode 0x012A402D#32 = .instr (.daddu 8 9 10) ∧ decode 0x012A402E#32 = .instr (.dsub 8 9 10) ∧
    decode 0x012A402F#32 = .instr (.dsubu 8 9 10) ∧ decode 0x612A8001#32 = .instr (.daddi 10 9 0x8001) ∧
    decode 0x652A8001#32 = .instr (.daddiu 10 9 0x8001) := by
  decide +kernel

theorem test_decode_multiply_divide :
    decode 0b00000001001010100000000000011010#32 = .instr (.div 9 10) ∧
    decode 0x012A001B#32 = .instr (.divu 9 10) ∧ decode 0x012A001E#32 = .instr (.ddiv 9 10) ∧
    decode 0x012A001F#32 = .instr (.ddivu 9 10) ∧ decode 0x012A0018#32 = .instr (.mult 9 10) ∧
    decode 0x012A0019#32 = .instr (.multu 9 10) ∧ decode 0x012A001C#32 = .instr (.dmult 9 10) ∧
    decode 0x012A001D#32 = .instr (.dmultu 9 10) := by
  decide +kernel

theorem test_decode_shift :
    decode 0b00000000000010100100011111000000#32 = .instr (.sll 8 10 31) ∧
    decode 0x000A47C2#32 = .instr (.srl 8 10 31) ∧ decode 0x000A47C3#32 = .instr (.sra 8 10 31) ∧
    decode 0x012A4004#32 = .instr (.sllv 8 10 9) ∧ decode 0x012A4006#32 = .instr (.srlv 8 10 9) ∧
    decode 0x012A4007#32 = .instr (.srav 8 10 9) ∧ decode 0x000A47F8#32 = .instr (.dsll 8 10 31) ∧
    decode 0x000A47FA#32 = .instr (.dsrl 8 10 31) ∧ decode 0x000A47FB#32 = .instr (.dsra 8 10 31) ∧
    decode 0x012A4014#32 = .instr (.dsllv 8 10 9) ∧ decode 0x012A4016#32 = .instr (.dsrlv 8 10 9) ∧
    decode 0x012A4017#32 = .instr (.dsrav 8 10 9) ∧ decode 0x000A47FC#32 = .instr (.dsll32 8 10 31) ∧
    decode 0x000A47FE#32 = .instr (.dsrl32 8 10 31) ∧ decode 0x000A47FF#32 = .instr (.dsra32 8 10 31) := by
  decide +kernel

theorem test_decode_compare_logic :
    decode 0b00000001001010100100000000101010#32 = .instr (.slt 8 9 10) ∧
    decode 0x012A402B#32 = .instr (.sltu 8 9 10) ∧ decode 0x292A8001#32 = .instr (.slti 10 9 0x8001) ∧
    decode 0x2D2A8001#32 = .instr (.sltiu 10 9 0x8001) ∧ decode 0x012A4024#32 = .instr (.and 8 9 10) ∧
    decode 0x012A4025#32 = .instr (.or 8 9 10) ∧ decode 0x012A4026#32 = .instr (.xor 8 9 10) ∧
    decode 0x012A4027#32 = .instr (.nor 8 9 10) ∧ decode 0x312A8001#32 = .instr (.andi 10 9 0x8001) ∧
    decode 0x352A8001#32 = .instr (.ori 10 9 0x8001) ∧ decode 0x392A8001#32 = .instr (.xori 10 9 0x8001) ∧
    decode 0x3C0A8001#32 = .instr (.lui 10 0x8001) := by
  decide +kernel

theorem test_decode_transfer :
    decode 0b00000000000000000100000000010000#32 = .instr (.mfhi 8) ∧ decode 0x01200011#32 = .instr (.mthi 9) ∧
    decode 0x00004012#32 = .instr (.mflo 8) ∧ decode 0x01200013#32 = .instr (.mtlo 9) ∧
    decode 0x400A4000#32 = .instr (.mfc0 10 8) ∧ decode 0x408A4000#32 = .instr (.mtc0 10 8) ∧
    decode 0x402A4000#32 = .instr (.dmfc0 10 8) ∧ decode 0x40AA4000#32 = .instr (.dmtc0 10 8) ∧
    decode 0x440A6800#32 = .instr (.mfc1 10 13) ∧ decode 0x448A6800#32 = .instr (.mtc1 10 13) ∧
    decode 0x442A6800#32 = .instr (.dmfc1 10 13) ∧ decode 0x44AA6800#32 = .instr (.dmtc1 10 13) ∧
    decode 0x444A6800#32 = .instr (.cfc1 10 13) ∧ decode 0x44CA6800#32 = .instr (.ctc1 10 13) := by
  decide +kernel

theorem test_decode_branch :
    decode 0b00010001001010101111111111111100#32 = .instr (.beq 9 10 0xfffc) ∧
    decode 0x152AFFFC#32 = .instr (.bne 9 10 0xfffc) ∧ decode 0x1920FFFC#32 = .instr (.blez 9 0xfffc) ∧
    decode 0x1D20FFFC#32 = .instr (.bgtz 9 0xfffc) ∧ decode 0x0520FFFC#32 = .instr (.bltz 9 0xfffc) ∧
    decode 0x0521FFFC#32 = .instr (.bgez 9 0xfffc) ∧ decode 0x0530FFFC#32 = .instr (.bltzal 9 0xfffc) ∧
    decode 0x0531FFFC#32 = .instr (.bgezal 9 0xfffc) ∧ decode 0x512AFFFC#32 = .instr (.beql 9 10 0xfffc) ∧
    decode 0x552AFFFC#32 = .instr (.bnel 9 10 0xfffc) ∧ decode 0x5920FFFC#32 = .instr (.blezl 9 0xfffc) ∧
    decode 0x5D20FFFC#32 = .instr (.bgtzl 9 0xfffc) ∧ decode 0x0522FFFC#32 = .instr (.bltzl 9 0xfffc) ∧
    decode 0x0523FFFC#32 = .instr (.bgezl 9 0xfffc) ∧ decode 0x0532FFFC#32 = .instr (.bltzall 9 0xfffc) ∧
    decode 0x0533FFFC#32 = .instr (.bgezall 9 0xfffc) := by
  decide +kernel

theorem test_decode_branch_on_condition_flag :
    decode 0b01000101000000001111111111111100#32 = .instr (.bc1f 0xfffc) ∧
    decode 0x4501FFFC#32 = .instr (.bc1t 0xfffc) ∧ decode 0x4502FFFC#32 = .instr (.bc1fl 0xfffc) ∧
    decode 0x4503FFFC#32 = .instr (.bc1tl 0xfffc) := by
  decide +kernel

theorem test_decode_jump :
    decode 0b00001010000000000000010000000000#32 = .instr (.j 0x2000400) ∧
    decode 0x0E000400#32 = .instr (.jal 0x2000400) ∧ decode 0x01200008#32 = .instr (.jr 9) ∧
    decode 0x01204009#32 = .instr (.jalr 8 9) := by
  decide +kernel

theorem test_decode_load_store :
    decode 0b10000001001010101111111111111100#32 = .instr (.lb 10 9 0xfffc) ∧
    decode 0x912AFFFC#32 = .instr (.lbu 10 9 0xfffc) ∧ decode 0x852AFFFC#32 = .instr (.lh 10 9 0xfffc) ∧
    decode 0x952AFFFC#32 = .instr (.lhu 10 9 0xfffc) ∧ decode 0x8D2AFFFC#32 = .instr (.lw 10 9 0xfffc) ∧
    decode 0x9D2AFFFC#32 = .instr (.lwu 10 9 0xfffc) ∧ decode 0xDD2AFFFC#32 = .instr (.ld 10 9 0xfffc) ∧
    decode 0x892AFFFC#32 = .instr (.lwl 10 9 0xfffc) ∧ decode 0x992AFFFC#32 = .instr (.lwr 10 9 0xfffc) ∧
    decode 0x692AFFFC#32 = .instr (.ldl 10 9 0xfffc) ∧ decode 0x6D2AFFFC#32 = .instr (.ldr 10 9 0xfffc) ∧
    decode 0xA12AFFFC#32 = .instr (.sb 10 9 0xfffc) ∧ decode 0xA52AFFFC#32 = .instr (.sh 10 9 0xfffc) ∧
    decode 0xAD2AFFFC#32 = .instr (.sw 10 9 0xfffc) ∧ decode 0xFD2AFFFC#32 = .instr (.sd 10 9 0xfffc) ∧
    decode 0xA92AFFFC#32 = .instr (.swl 10 9 0xfffc) ∧ decode 0xB92AFFFC#32 = .instr (.swr 10 9 0xfffc) ∧
    decode 0xB12AFFFC#32 = .instr (.sdl 10 9 0xfffc) ∧ decode 0xB52AFFFC#32 = .instr (.sdr 10 9 0xfffc) := by
  decide +kernel

theorem test_decode_linked_and_coprocessor1_load_store :
    decode 0b11000001001010101111111111111100#32 = .instr (.ll 10 9 0xfffc) ∧
    decode 0xD12AFFFC#32 = .instr (.lld 10 9 0xfffc) ∧ decode 0xE12AFFFC#32 = .instr (.sc 10 9 0xfffc) ∧
    decode 0xF12AFFFC#32 = .instr (.scd 10 9 0xfffc) ∧ decode 0xC52EFFFC#32 = .instr (.lwc1 14 9 0xfffc) ∧
    decode 0xD52EFFFC#32 = .instr (.ldc1 14 9 0xfffc) ∧ decode 0xE52EFFFC#32 = .instr (.swc1 14 9 0xfffc) ∧
    decode 0xF52EFFFC#32 = .instr (.sdc1 14 9 0xfffc) := by
  decide +kernel

theorem test_decode_floating_point_arithmetic :
    decode 0b01000110000011100110101111000000#32 = .instr (.addS 15 13 14) ∧
    decode 0x462E6BC0#32 = .instr (.addD 15 13 14) ∧ decode 0x460E6BC1#32 = .instr (.subS 15 13 14) ∧
    decode 0x462E6BC1#32 = .instr (.subD 15 13 14) ∧ decode 0x460E6BC2#32 = .instr (.mulS 15 13 14) ∧
    decode 0x462E6BC2#32 = .instr (.mulD 15 13 14) ∧ decode 0x460E6BC3#32 = .instr (.divS 15 13 14) ∧
    decode 0x462E6BC3#32 = .instr (.divD 15 13 14) ∧ decode 0x46006BC4#32 = .instr (.sqrtS 15 13) ∧
    decode 0x46206BC4#32 = .instr (.sqrtD 15 13) ∧ decode 0x46006BC5#32 = .instr (.absS 15 13) ∧
    decode 0x46206BC5#32 = .instr (.absD 15 13) ∧ decode 0x46006BC6#32 = .instr (.movS 15 13) ∧
    decode 0x46206BC6#32 = .instr (.movD 15 13) ∧ decode 0x46006BC7#32 = .instr (.negS 15 13) ∧
    decode 0x46206BC7#32 = .instr (.negD 15 13) := by
  decide +kernel

theorem test_decode_conversion_named_mode :
    decode 0b01000110000000000110101111001000#32 = .instr (.roundLS 15 13) ∧
    decode 0x46206BC8#32 = .instr (.roundLD 15 13) ∧ decode 0x46006BC9#32 = .instr (.truncLS 15 13) ∧
    decode 0x46206BC9#32 = .instr (.truncLD 15 13) ∧ decode 0x46006BCA#32 = .instr (.ceilLS 15 13) ∧
    decode 0x46206BCA#32 = .instr (.ceilLD 15 13) ∧ decode 0x46006BCB#32 = .instr (.floorLS 15 13) ∧
    decode 0x46206BCB#32 = .instr (.floorLD 15 13) ∧ decode 0x46006BCC#32 = .instr (.roundWS 15 13) ∧
    decode 0x46206BCC#32 = .instr (.roundWD 15 13) ∧ decode 0x46006BCD#32 = .instr (.truncWS 15 13) ∧
    decode 0x46206BCD#32 = .instr (.truncWD 15 13) ∧ decode 0x46006BCE#32 = .instr (.ceilWS 15 13) ∧
    decode 0x46206BCE#32 = .instr (.ceilWD 15 13) ∧ decode 0x46006BCF#32 = .instr (.floorWS 15 13) ∧
    decode 0x46206BCF#32 = .instr (.floorWD 15 13) := by
  decide +kernel

theorem test_decode_conversion :
    decode 0b01000110001000000110101111100000#32 = .instr (.cvtSD 15 13) ∧
    decode 0x46806BE0#32 = .instr (.cvtSW 15 13) ∧ decode 0x46A06BE0#32 = .instr (.cvtSL 15 13) ∧
    decode 0x46006BE1#32 = .instr (.cvtDS 15 13) ∧ decode 0x46806BE1#32 = .instr (.cvtDW 15 13) ∧
    decode 0x46A06BE1#32 = .instr (.cvtDL 15 13) ∧ decode 0x46006BE4#32 = .instr (.cvtWS 15 13) ∧
    decode 0x46206BE4#32 = .instr (.cvtWD 15 13) ∧ decode 0x46006BE5#32 = .instr (.cvtLS 15 13) ∧
    decode 0x46206BE5#32 = .instr (.cvtLD 15 13) := by
  decide +kernel

theorem test_decode_floating_point_compare :
    decode 0b01000110000011100110100000110000#32 = .instr (.cFS 13 14) ∧
    decode 0x462E6830#32 = .instr (.cFD 13 14) ∧ decode 0x460E6831#32 = .instr (.cUnS 13 14) ∧
    decode 0x462E6831#32 = .instr (.cUnD 13 14) ∧ decode 0x460E6832#32 = .instr (.cEqS 13 14) ∧
    decode 0x462E6832#32 = .instr (.cEqD 13 14) ∧ decode 0x460E6833#32 = .instr (.cUeqS 13 14) ∧
    decode 0x462E6833#32 = .instr (.cUeqD 13 14) ∧ decode 0x460E6834#32 = .instr (.cOltS 13 14) ∧
    decode 0x462E6834#32 = .instr (.cOltD 13 14) ∧ decode 0x460E6835#32 = .instr (.cUltS 13 14) ∧
    decode 0x462E6835#32 = .instr (.cUltD 13 14) ∧ decode 0x460E6836#32 = .instr (.cOleS 13 14) ∧
    decode 0x462E6836#32 = .instr (.cOleD 13 14) ∧ decode 0x460E6837#32 = .instr (.cUleS 13 14) ∧
    decode 0x462E6837#32 = .instr (.cUleD 13 14) ∧ decode 0x460E6838#32 = .instr (.cSfS 13 14) ∧
    decode 0x462E6838#32 = .instr (.cSfD 13 14) ∧ decode 0x460E6839#32 = .instr (.cNgleS 13 14) ∧
    decode 0x462E6839#32 = .instr (.cNgleD 13 14) ∧ decode 0x460E683A#32 = .instr (.cSeqS 13 14) ∧
    decode 0x462E683A#32 = .instr (.cSeqD 13 14) ∧ decode 0x460E683B#32 = .instr (.cNglS 13 14) ∧
    decode 0x462E683B#32 = .instr (.cNglD 13 14) ∧ decode 0x460E683C#32 = .instr (.cLtS 13 14) ∧
    decode 0x462E683C#32 = .instr (.cLtD 13 14) ∧ decode 0x460E683D#32 = .instr (.cNgeS 13 14) ∧
    decode 0x462E683D#32 = .instr (.cNgeD 13 14) ∧ decode 0x460E683E#32 = .instr (.cLeS 13 14) ∧
    decode 0x462E683E#32 = .instr (.cLeD 13 14) ∧ decode 0x460E683F#32 = .instr (.cNgtS 13 14) ∧
    decode 0x462E683F#32 = .instr (.cNgtD 13 14) := by
  decide +kernel

theorem test_decode_system :
    decode 0b01000010000000000000000000011000#32 = .instr .eret ∧
    decode 0x03FFFF8C#32 = .instr (.syscall 0xffffe) ∧ decode 0x03FFFF8D#32 = .instr (.brk 0xffffe) ∧
    decode 0x0000000F#32 = .instr .sync ∧ decode 0xBD35FFFC#32 = .instr (.cache 21 9 0xfffc) ∧
    decode 0x42000001#32 = .instr .tlbr ∧ decode 0x42000002#32 = .instr .tlbwi ∧
    decode 0x42000006#32 = .instr .tlbwr ∧ decode 0x42000008#32 = .instr .tlbp := by
  decide +kernel

theorem test_decode_trap :
    decode 0b00000001001010101111111110110000#32 = .instr (.tge 9 10 0x3fe) ∧
    decode 0x012AFFB1#32 = .instr (.tgeu 9 10 0x3fe) ∧ decode 0x012AFFB2#32 = .instr (.tlt 9 10 0x3fe) ∧
    decode 0x012AFFB3#32 = .instr (.tltu 9 10 0x3fe) ∧ decode 0x012AFFB4#32 = .instr (.teq 9 10 0x3fe) ∧
    decode 0x012AFFB6#32 = .instr (.tne 9 10 0x3fe) ∧ decode 0x05288001#32 = .instr (.tgei 9 0x8001) ∧
    decode 0x05298001#32 = .instr (.tgeiu 9 0x8001) ∧ decode 0x052A8001#32 = .instr (.tlti 9 0x8001) ∧
    decode 0x052B8001#32 = .instr (.tltiu 9 0x8001) ∧ decode 0x052C8001#32 = .instr (.teqi 9 0x8001) ∧
    decode 0x052E8001#32 = .instr (.tnei 9 0x8001) := by
  decide +kernel

/-- The four bytes of an instruction word, the first at the lowest address (R120). -/
theorem test_decode_bytes :
    decodeBytes [0x01, 0x2A, 0x40, 0x20, 0xFF] = .ok (.instr (.add 8 9 10), [0xFF]) ∧
    decodeBytes [0x01, 0x2A, 0x40] = .error .truncated ∧ decodeTableWord 32 0x012A4020 = some (.add 8 9 10) ∧
    decodeTableWord 32 0x70000000 = none := by
  decide +kernel

/-- V131, R433, R471: words that are no instruction, and fields that are not checked (R125). -/
theorem test_decode_rejects :
    decode 0x70000000#32 = .reserved ∧ decode 0x00000001#32 = .reserved ∧ decode 0x04040000#32 = .reserved ∧
    decode 0x41000000#32 = .reserved ∧ decode 0x42000003#32 = .reserved ∧ decode 0x44600000#32 = .reserved ∧
    decode 0x45040000#32 = .reserved ∧ decode 0x46000010#32 = .reserved ∧ decode 0x46801000#32 = .fpUnimplementedFormat ∧
    decode 0x46001020#32 = .fpUnimplementedFormat ∧ decode 0x4BFFFFFF#32 = .cop2 ∧
    decode 0x012A47E0#32 = .instr (.add 8 9 10) := by
  decide +kernel

/-- The bounds of WellFormed: a field that does not fit its bits is refused. -/
theorem test_wellFormed_bounds :
    (Instr.syscall 0x100000).wellFormed = false ∧ (Instr.syscall 0xFFFFF).wellFormed = true ∧
    (Instr.brk 0x100000).wellFormed = false ∧ (Instr.tge 9 10 0x400).wellFormed = false ∧
    (Instr.tgeu 9 10 0x400).wellFormed = false ∧ (Instr.tlt 9 10 0x400).wellFormed = false ∧
    (Instr.tltu 9 10 0x400).wellFormed = false ∧ (Instr.teq 9 10 0x400).wellFormed = false ∧
    (Instr.tne 9 10 0x400).wellFormed = false ∧ (Instr.tne 9 10 0x3FF).wellFormed = true ∧
    (Instr.cache 32 9 0).wellFormed = false ∧ (Instr.cache 31 9 0).wellFormed = true := by
  decide +kernel

/-! ## One instruction at a time -/

/-- The start state of the vectors: kernel mode, one RAM window with half its length behind it, eight bytes at 0x2000. -/
def plain : State :=
  { State.resetWith { Config.default with directVector := true } [⟨0, 0x10000, .ram 0 0x8000⟩] ⟨0, 0, 0, 0⟩ with
    pc := 0x1000
    mem := [(0x2000, 0x11), (0x2001, 0x22), (0x2002, 0x33), (0x2003, 0x44), (0x2004, 0x55), (0x2005, 0x66),
      (0x2006, 0x77), (0x2007, 0x88)]
    cop0 := { Cop0.reset Config.default ⟨0, 0, 0, 0⟩ with status := 0 } }

/-- `plain` with values in `$t1` and `$t2` (9 and 10). -/
def withT (a b : Dword) : State := (plain.writeReg 9 a).writeReg 10 b

/-- A state with another Status. -/
def withStatus (s : State) (w : Word) : State := { s with cop0 := { s.cop0 with status := w } }

/-- `plain` in user mode with 32-bit operation. -/
def user : State := withStatus plain 0x10

/-- Coprocessor 1 usable, FR = 0, with values in `$f2`, `$f4` and FCR31. -/
def withF (a b : Dword) (control : Word) : State :=
  { (withStatus plain 0x20000000).writeFD 2 a with fcr31 := control }.writeFD 4 b

/-- What a next state holds; none where the answer is no next state. -/
def reads {α : Type} (a : Answer) (f : State → α) : Option α :=
  match a with
  | .next t => some (f t)
  | .fault _ => none
  | .refused _ => none

/-- Why an answer stops; none where it does not. -/
def stop (a : Answer) : Option (Sum Fault Refusal) :=
  match a with
  | .next _ => none
  | .fault f => some (.inl f)
  | .refused r => some (.inr r)

/-- Register `$t0` (8), HI and LO, the branch unit, the pending exception after an answer. -/
def t0 (a : Answer) : Option Dword := reads a fun t => t.readReg 8
def hiLo (a : Answer) : Option (Dword × Dword) := reads a fun t => (t.hi, t.lo)
def raises (a : Answer) : Option (Option Exc) := reads a fun t => t.pending.sync
def fp0 (a : Answer) : Option (Dword × Word) := reads a fun t => (t.fpr[0], t.fcr31)

/-- V1, V3, V5, V7, V9: the trapping adds and subtracts of 32 bits. -/
theorem test_trapping_word_arithmetic :
    raises (exec (.add 8 9 10) (withT 0x7FFFFFFF 1)) = some (some .overflow) ∧
    t0 (exec (.add 8 9 10) (withT 0xABCDEF0100000005 0x0000000100000003)) = some 8 ∧
    raises (exec (.sub 8 9 10) (withT 0 0xFFFFFFFF80000000)) = some (some .overflow) ∧
    t0 (exec (.sub 8 9 10) (withT 3 5)) = some 0xFFFFFFFFFFFFFFFE ∧
    raises (exec (.addi 8 9 0xFFFF) (withT 0xFFFFFFFF80000000 0)) = some (some .overflow) ∧
    t0 (exec (.addi 8 9 0x7FFF) (withT 0x7FFF8000 0)) = some 0x7FFFFFFF := by
  decide +kernel

/-- V2, V8, V10, V12, V13, V14: the wrapping ones, and the 64-bit ones (V11). -/
theorem test_other_integer_arithmetic :
    t0 (exec (.addu 8 9 10) (withT 0x7FFFFFFF 1)) = some 0xFFFFFFFF80000000 ∧
    t0 (exec (.subu 8 9 10) (withT 0 1)) = some 0xFFFFFFFFFFFFFFFF ∧
    t0 (exec (.addiu 8 9 0xFFFF) (withT 0xFFFFFFFF80000000 0)) = some 0x7FFFFFFF ∧
    raises (exec (.dadd 8 9 10) (withT 0x7FFFFFFFFFFFFFFF 1)) = some (some .overflow) ∧
    t0 (exec (.dadd 8 9 10) (withT 0xFFFFFFFF 1)) = some 0x100000000 ∧
    t0 (exec (.daddu 8 9 10) (withT 0xFFFFFFFFFFFFFFFF 1)) = some 0 ∧
    raises (exec (.dsub 8 9 10) (withT 0 0x8000000000000000)) = some (some .overflow) ∧
    t0 (exec (.dsubu 8 9 10) (withT 0 0x8000000000000000)) = some 0x8000000000000000 ∧
    raises (exec (.daddi 8 9 1) (withT 0x7FFFFFFFFFFFFFFF 0)) = some (some .overflow) ∧
    t0 (exec (.daddiu 8 9 1) (withT 0x7FFFFFFFFFFFFFFF 0)) = some 0x8000000000000000 ∧
    raises (exec (.dadd 8 9 10) user) = some (some .reservedInstruction) := by
  decide +kernel

/-- V15 to V20: the divides, the zero divisors and the quotient that does not fit. -/
theorem test_divide :
    hiLo (exec (.div 9 10) (withT 0xFFFFFFFFFFFFFFF9 2)) = some (0xFFFFFFFFFFFFFFFF, 0xFFFFFFFFFFFFFFFD) ∧
    hiLo (exec (.div 9 10) (withT 0xFFFFFFFFFFFFFFF9 0)) = some (0xFFFFFFFFFFFFFFF9, 1) ∧
    hiLo (exec (.divu 9 10) (withT 0xFFFFFFFFFFFFFFF9 2)) = some (1, 0x7FFFFFFC) ∧
    hiLo (exec (.divu 9 10) (withT 0xFFFFFFFF80000005 0)) = some (0xFFFFFFFF80000005, 0xFFFFFFFFFFFFFFFF) ∧
    hiLo (exec (.ddiv 9 10) (withT 0x8000000000000000 0xFFFFFFFFFFFFFFFF)) = some (0, 0x8000000000000000) ∧
    hiLo (exec (.ddivu 9 10) (withT 0xFFFFFFFFFFFFFFF9 2)) = some (1, 0x7FFFFFFFFFFFFFFC) ∧
    hiLo (exec (.ddivu 9 10) (withT 5 0)) = some (5, 0xFFFFFFFFFFFFFFFF) := by
  decide +kernel

/-- V21 to V24: the multiplies. -/
theorem test_multiply :
    hiLo (exec (.mult 9 10) (withT 0xFFFF 0x10001)) = some (0, 0xFFFFFFFFFFFFFFFF) ∧
    hiLo (exec (.multu 9 10) (withT 0xFFFFFFFFFFFFFFFF 0xFFFFFFFFFFFFFFFF)) = some (0xFFFFFFFFFFFFFFFE, 1) ∧
    hiLo (exec (.dmult 9 10) (withT 0xFFFFFFFFFFFFFFFF 2)) = some (0xFFFFFFFFFFFFFFFF, 0xFFFFFFFFFFFFFFFE) ∧
    hiLo (exec (.dmultu 9 10) (withT 0xFFFFFFFFFFFFFFFF 2)) = some (1, 0xFFFFFFFFFFFFFFFE) := by
  decide +kernel

/-- V25 to V32: the 32-bit shifts, with an amount beyond 31 and with the five-bit parameter. -/
theorem test_word_shifts :
    t0 (exec (.sll 8 9 0) (withT 0x80000000 0)) = some 0xFFFFFFFF80000000 ∧
    t0 (exec (.srl 8 9 4) (withT 0xFFFFFFFF80000000 0)) = some 0x08000000 ∧
    t0 (exec (.sra 8 9 4) (withT 0x0000000180000000 0)) = some 0xFFFFFFFFF8000000 ∧
    t0 (exec (.sllv 8 9 10) (withT 1 36)) = some 0 ∧ t0 (exec (.srlv 8 9 10) (withT 0xFFFFFFFF80000000 31)) = some 1 ∧
    t0 (exec (.srav 8 9 10) (withT 0xFFFFFFFF80000000 40)) = some 0xFFFFFFFFFFFFFFFF ∧
    t0 (exec (.sllv 8 9 10) { withT 1 36 with cfg := { Config.default with vshift32 := .five } }) = some 0x10 := by
  decide +kernel

/-- V33 to V37: the 64-bit shifts. -/
theorem test_doubleword_shifts :
    t0 (exec (.dsll 8 9 4) (withT 0x0800000000000000 0)) = some 0x8000000000000000 ∧
    t0 (exec (.dsrl 8 9 4) (withT 0x8000000000000000 0)) = some 0x0800000000000000 ∧
    t0 (exec (.dsra 8 9 4) (withT 0x8000000000000000 0)) = some 0xF800000000000000 ∧
    t0 (exec (.dsllv 8 9 10) (withT 1 0x47)) = some 0x80 ∧
    t0 (exec (.dsrlv 8 9 10) (withT 0x8000000000000000 63)) = some 1 ∧
    t0 (exec (.dsrav 8 9 10) (withT 0x8000000000000000 63)) = some 0xFFFFFFFFFFFFFFFF ∧
    t0 (exec (.dsll32 8 9 31) (withT 1 0)) = some 0x8000000000000000 ∧
    t0 (exec (.dsrl32 8 9 0) (withT 0x1234567800000000 0)) = some 0x12345678 ∧
    t0 (exec (.dsra32 8 9 4) (withT 0x8000000000000000 0)) = some 0xFFFFFFFFF8000000 := by
  decide +kernel

/-- V39 to V41, R245 to R256: comparisons at both widths, logic, LUI. -/
theorem test_compare_and_logic :
    t0 (exec (.slt 8 9 10) (withT 0x100000000 1)) = some 0 ∧
    t0 (exec (.slt 8 9 10) (withStatus (withT 0x100000000 1) 0x10)) = some 1 ∧
    t0 (exec (.sltu 8 9 10) (withT 0xFFFFFFFF00000000 1)) = some 0 ∧
    t0 (exec (.slti 8 9 0xFFFF) (withT 0xFFFFFFFFFFFFFFFE 0)) = some 1 ∧
    t0 (exec (.sltiu 8 9 0xFFFF) (withT 5 0)) = some 1 ∧
    t0 (exec (.and 8 9 10) (withT 0xFF00FF00FF00FF00 0x0FF00FF00FF00FF0)) = some 0x0F000F000F000F00 ∧
    t0 (exec (.or 8 9 10) (withT 0xF0 0x0F)) = some 0xFF ∧ t0 (exec (.xor 8 9 10) (withT 0xFF 0x0F)) = some 0xF0 ∧
    t0 (exec (.nor 8 9 10) (withT 0 0)) = some 0xFFFFFFFFFFFFFFFF ∧
    t0 (exec (.andi 8 9 0xFF00) (withT 0xFFFFFFFFFFFFFFFF 0)) = some 0xFF00 ∧
    t0 (exec (.ori 8 9 0xFF00) (withT 0x12340011 0)) = some 0x1234FF11 ∧
    t0 (exec (.xori 8 9 0xFF00) (withT 0xFFFF 0)) = some 0xFF ∧
    t0 (exec (.lui 8 0x8000) plain) = some 0xFFFFFFFF80000000 := by
  decide +kernel

/-- R271 to R274, V48, V53, V54: transfers of HI, LO and coprocessor 0. -/
theorem test_transfers :
    t0 (exec (.mfhi 8) { plain with hi := 1 }) = some 1 ∧ t0 (exec (.mflo 8) { plain with lo := 7 }) = some 7 ∧
    hiLo (exec (.mthi 9) (withT 0x123456789ABCDEF0 0)) = some (0x123456789ABCDEF0, 0) ∧
    hiLo (exec (.mtlo 9) (withT 7 0)) = some (0, 7) ∧
    t0 (exec (.mfc0 8 12) (withStatus plain 0x80000001)) = some 0xFFFFFFFF80000001 ∧
    t0 (exec (.dmfc0 8 14) { plain with cop0 := { plain.cop0 with epc := 0x123456789ABCDEF0 } }) =
      some 0x123456789ABCDEF0 ∧
    reads (exec (.mtc0 9 12) (withT 0xFFFFFFFFFFFFFFFF 0)) (·.cop0.status) = some 0xFF77FFFF ∧
    reads (exec (.mtc0 9 13) (withT 0x100 0)) (·.cop0.cause) = some 0x100 ∧
    reads (exec (.dmtc0 9 10) (withT 0xFFFFFFFFFFFFFFFF 0)) (·.cop0.entryHi) = some 0xC00000FFFFFFE0FF ∧
    raises (exec (.mfc0 8 9) user) = some (some (.coprocessorUnusable 0)) := by
  decide +kernel

/-- R279 to R284: transfers of coprocessor 1; an odd register with FR = 0 names an upper half (R32). -/
theorem test_coprocessor1_transfers :
    t0 (exec (.mfc1 8 3) (withF 0x3FF0000012345678 0 0)) = some 0x3FF00000 ∧
    reads (exec (.mtc1 9 3) { withF 0x1111111122222222 0 0 with gpr := (withT 0x80000000 0).gpr }) (·.fpr[2]) =
      some 0x8000000022222222 ∧
    t0 (exec (.dmfc1 8 2) (withF 0x3FF0000012345678 0 0)) = some 0x3FF0000012345678 ∧
    reads (exec (.dmtc1 9 2) { withF 0 0 0 with gpr := (withT 0xFFFFFFFFFFFFFFFF 0).gpr }) (·.fpr[2]) =
      some 0xFFFFFFFFFFFFFFFF ∧
    stop (exec (.dmfc1 8 3) (withF 0 0 0)) = some (.inl .oddDoubleRegister) ∧
    t0 (exec (.cfc1 8 31) (withF 0 0 0x01000003)) = some 0x01000003 ∧
    reads (exec (.ctc1 9 31) { withF 0 0 0 with gpr := (withT 0xFFFFFFFF 0).gpr }) (·.fcr31) = some 0x0183FFFF := by
  decide +kernel

/-- How a control transfer at 0x1000 with offset 3 moves on to its slot: taken to 0x100C, with the slot nullified, or with
neither. -/
inductive Move where
  | taken
  | nullifies
  | goesOn
  | other
deriving DecidableEq, Repr

/-- The move an answer made. -/
def move (a : Answer) : Option Move :=
  reads a fun t =>
    if t.pc ≠ 0x1004 then .other
    else if t.bu = ⟨true, true, false, 0x100C, false⟩ then .taken
    else if t.bu = ⟨false, false, false, 0, true⟩ then .nullifies
    else if t.bu = BranchUnit.clear then .goesOn
    else .other

/-- R302 to R309: the branches that always run their slot. -/
theorem test_branches :
    move (exec (.beq 9 10 3) (withT 7 7)) = some .taken ∧ move (exec (.bne 9 10 3) (withT 1 1)) = some .goesOn ∧
    move (exec (.blez 9 3) (withT 0 0)) = some .taken ∧ move (exec (.bgtz 9 3) (withT 0 0)) = some .goesOn ∧
    move (exec (.bltz 9 3) (withT 0x8000000000000000 0)) = some .taken ∧
    move (exec (.bltz 9 3) (withT 0x80000000 0)) = some .goesOn ∧ move (exec (.bgez 9 3) (withT 0 0)) = some .taken ∧
    move (exec (.bltzal 9 3) (withT 5 0)) = some .goesOn ∧
    reads (exec (.bltzal 9 3) (withT 5 0)) (·.readReg 31) = some 0x1008 ∧
    move (exec (.bgezal 9 3) (withT 5 0)) = some .taken := by
  decide +kernel

/-- R310 to R321: the likely branches and the branches on the condition flag. -/
theorem test_likely_and_flag_branches :
    move (exec (.beql 9 10 3) (withT 1 2)) = some .nullifies ∧ move (exec (.bnel 9 10 3) (withT 1 2)) = some .taken ∧
    move (exec (.blezl 9 3) (withT 1 0)) = some .nullifies ∧ move (exec (.bgtzl 9 3) (withT 1 0)) = some .taken ∧
    move (exec (.bltzl 9 3) (withT 0 0)) = some .nullifies ∧ move (exec (.bgezl 9 3) (withT 0 0)) = some .taken ∧
    move (exec (.bltzall 9 3) (withT 0 0)) = some .nullifies ∧
    reads (exec (.bgezall 9 3) (withT 0 0)) (·.readReg 31) = some 0x1008 ∧
    move (exec (.bc1f 3) (withF 0 0 0)) = some .taken ∧ move (exec (.bc1t 3) (withF 0 0 0)) = some .goesOn ∧
    move (exec (.bc1fl 3) (withF 0 0 0x00800000)) = some .nullifies ∧
    move (exec (.bc1tl 3) (withF 0 0 0x00800000)) = some .taken := by
  decide +kernel

/-- R322 to R325, V65, V67: the jumps, the last with the register read before the link. -/
theorem test_jumps :
    reads (exec (.j 0x400) plain) (fun t => (t.bu, t.pc)) = some (⟨true, true, true, 0x1000, false⟩, 0x1004) ∧
    reads (exec (.jal 0x400) plain) (·.readReg 31) = some 0x1008 ∧
    reads (exec (.jr 9) (withT 0x2000 0)) (·.bu) = some ⟨true, true, true, 0x2000, false⟩ ∧
    reads (exec (.jalr 9 9) (withT 0x2000 0)) (·.bu) = some ⟨true, true, true, 0x2000, false⟩ ∧
    reads (exec (.jalr 9 9) (withT 0x2000 0)) (·.readReg 9) = some 0x1008 := by
  decide +kernel

/-- R342 to R348, V87: the aligned loads, and the address in the two widths. -/
theorem test_aligned_loads :
    t0 (exec (.lb 8 9 7) (withT 0x2000 0)) = some 0xFFFFFFFFFFFFFF88 ∧
    t0 (exec (.lbu 8 9 7) (withT 0x2000 0)) = some 0x88 ∧ t0 (exec (.lh 8 9 6) (withT 0x2000 0)) = some 0x7788 ∧
    t0 (exec (.lhu 8 9 2) (withT 0x2000 0)) = some 0x3344 ∧ t0 (exec (.lw 8 9 4) (withT 0x1FFC 0)) = some 0x11223344 ∧
    t0 (exec (.lwu 8 9 4) (withT 0x2000 0)) = some 0x55667788 ∧
    t0 (exec (.ld 8 9 0xFFF8) (withT 0x2008 0)) = some 0x1122334455667788 ∧
    raises (exec (.lw 8 9 2) (withT 0x2000 0)) = some (some (.addressErrorLoad 0x2002)) ∧
    raises (exec (.lw 8 9 0) (withT 0x20000 0)) = some (some .busErrorData) := by
  decide +kernel

/-- The eight bytes at 0x2000 after an answer. -/
def stored (a : Answer) : Option Dword :=
  reads a fun t => bigEndianValue ((List.range 8).map fun j => Memory.read t.mem (0x2000 + j))

/-- R353 to R356: the aligned stores. -/
theorem test_aligned_stores :
    stored (exec (.sb 10 9 1) (withT 0x2000 0xAABBCCDD)) = some 0x11DD334455667788 ∧
    stored (exec (.sh 10 9 2) (withT 0x2000 0xAABBCCDD)) = some 0x1122CCDD55667788 ∧
    stored (exec (.sw 10 9 4) (withT 0x2000 0xAABBCCDD)) = some 0x11223344AABBCCDD ∧
    stored (exec (.sd 10 9 0) (withT 0x2000 0x0102030405060708)) = some 0x0102030405060708 ∧
    raises (exec (.sd 10 9 4) (withT 0x2000 0)) = some (some (.addressErrorStore 0x2004)) ∧
    stored (exec (.sw 10 9 0) (withT 0x9000 0xDEADBEEF)) = some 0x1122334455667788 := by
  decide +kernel

/-- R369: one row of each column of the two tables. -/
theorem test_unaligned :
    reads (exec (.lwl 10 9 1) (withT 0x2000 0xAABBCCDD)) (·.readReg 10) = some 0x223344DD ∧
    reads (exec (.lwr 10 9 1) (withT 0x2000 0xAABBCCDD)) (·.readReg 10) = some 0xFFFFFFFFAABB1122 ∧
    reads (exec (.ldl 10 9 5) (withT 0x2000 0xA0A1A2A3A4A5A6A7)) (·.readReg 10) = some 0x667788A3A4A5A6A7 ∧
    reads (exec (.ldr 10 9 2) (withT 0x2000 0xA0A1A2A3A4A5A6A7)) (·.readReg 10) = some 0xA0A1A2A3A4112233 ∧
    stored (exec (.swl 10 9 1) (withT 0x2000 0xAABBCCDD)) = some 0x11AABBCC55667788 ∧
    stored (exec (.swr 10 9 2) (withT 0x2000 0xAABBCCDD)) = some 0xBBCCDD4455667788 ∧
    stored (exec (.sdl 10 9 6) (withT 0x2000 0x0102030405060708)) = some 0x1122334455660102 ∧
    stored (exec (.sdr 10 9 1) (withT 0x2000 0x0102030405060708)) = some 0x0708334455667788 := by
  decide +kernel

/-- V92 to V95: the linked loads and the conditional stores. -/
theorem test_linked :
    reads (exec (.ll 8 9 4) (withT 0x1FFC 0)) (fun t => (t.readReg 8, t.llBit, t.cop0.llAddr)) =
      some (0x11223344, true, 0x200) ∧
    reads (exec (.lld 8 9 4) (withT 0x1FFC 0)) (fun t => (t.readReg 8, t.llBit)) = some (0x1122334455667788, true) ∧
    reads (exec (.sc 10 9 4) { withT 0x1FFC 0x55 with llBit := true }) (fun t => (t.readReg 10, t.llBit)) =
      some (1, true) ∧
    stored (exec (.sc 10 9 4) (withT 0x1FFC 0x55)) = some 0x1122334455667788 ∧
    stored (exec (.scd 10 9 4) { withT 0x1FFC 0x0102030405060708 with llBit := true }) = some 0x0102030405060708 ∧
    raises (exec (.sc 8 9 5) (withT 0x1FFC 0)) = some (some (.addressErrorStore 0x2001)) := by
  decide +kernel

/-- V96 to V100: the loads and stores of coprocessor 1. -/
theorem test_coprocessor1_memory :
    reads (exec (.lwc1 3 9 4) { withF 0xAAAAAAAABBBBBBBB 0 0 with gpr := (withT 0x1FFC 0).gpr }) (·.fpr[2]) =
      some 0x11223344BBBBBBBB ∧
    reads (exec (.ldc1 2 9 4) { withF 0 0 0 with gpr := (withT 0x1FFC 0).gpr }) (·.fpr[2]) =
      some 0x1122334455667788 ∧
    stored (exec (.swc1 2 9 4) { withF 0x3FF0000040490FDB 0 0 with gpr := (withT 0x1FFC 0).gpr }) =
      some 0x40490FDB55667788 ∧
    stored (exec (.sdc1 2 9 4) { withF 0x3FF0000040490FDB 0 0 with gpr := (withT 0x1FFC 0).gpr }) =
      some 0x3FF0000040490FDB ∧
    raises (exec (.lwc1 2 9 4) (withT 0x1FFC 0)) = some (some (.coprocessorUnusable 1)) := by
  decide +kernel

/-- V101 to V109: arithmetic, with the four rounding modes of one quotient and a trapped division by zero. -/
theorem test_floating_point_arithmetic :
    fp0 (exec (.addS 0 2 4) (withF 0x3F800000 0x40000000 0x1004)) = some (0x40400000, 0x4) ∧
    fp0 (exec (.addD 0 2 4) (withF 0x3FF0000000000000 0x4000000000000000 0)) = some (0x4008000000000000, 0) ∧
    fp0 (exec (.subS 0 2 4) (withF 0x3F800000 0x40000000 0)) = some (0xBF800000, 0) ∧
    fp0 (exec (.subD 0 2 4) (withF 0x3FF0000000000000 0x4000000000000000 0)) = some (0xBFF0000000000000, 0) ∧
    fp0 (exec (.mulS 0 2 4) (withF 0x3F800000 0x40000000 0)) = some (0x40000000, 0) ∧
    fp0 (exec (.mulD 0 2 4) (withF 0x4008000000000000 0x4000000000000000 0)) = some (0x4018000000000000, 0) ∧
    fp0 (exec (.divS 0 2 4) (withF 0x3F800000 0x40400000 0)) = some (0x3EAAAAAB, 0x1004) ∧
    fp0 (exec (.divS 0 2 4) (withF 0x3F800000 0x40400000 3)) = some (0x3EAAAAAA, 0x1007) ∧
    fp0 (exec (.divS 0 2 4) (withF 0x3F800000 0 0x400)) = some (0, 0x8400) ∧
    raises (exec (.divS 0 2 4) (withF 0x3F800000 0 0x400)) = some (some .floatingPoint) ∧
    fp0 (exec (.divD 0 2 4) (withF 0x4018000000000000 0x4008000000000000 0)) = some (0x4000000000000000, 0) ∧
    fp0 (exec (.sqrtS 0 2) (withF 0x40800000 0 0)) = some (0x40000000, 0) ∧
    fp0 (exec (.sqrtD 0 2) (withF 0x4010000000000000 0 0)) = some (0x4000000000000000, 0) := by
  decide +kernel

/-- V106 to V109: an invalid operation, the sign operations, the moves. -/
theorem test_floating_point_signs :
    fp0 (exec (.divS 0 2 4) (withF 0 0 0)) = some (0x7FBFFFFF, 0x10040) ∧
    fp0 (exec (.sqrtS 0 2) (withF 0x80000000 0 0)) = some (0x80000000, 0) ∧
    fp0 (exec (.absS 0 2) (withF 0xC0200000 0 0x1000)) = some (0x40200000, 0) ∧
    fp0 (exec (.absD 0 2) (withF 0xC004000000000000 0 0)) = some (0x4004000000000000, 0) ∧
    fp0 (exec (.negS 0 2) (withF 0xC0200000 0 0)) = some (0x40200000, 0) ∧
    fp0 (exec (.negD 0 2) (withF 0x4004000000000000 0 0)) = some (0xC004000000000000, 0) ∧
    fp0 (exec (.movS 0 2) (withF 0xC0200000 0 0x1000)) = some (0xC0200000, 0x1000) ∧
    fp0 (exec (.movD 0 2) (withF 0x7FF0000000000001 0 0xF80)) = some (0x7FF0000000000001, 0xF80) := by
  decide +kernel

/-- V111 to V113, R402 to R409: the conversions with the mode in their name; RM is 2, and does not count. -/
theorem test_conversions_named_mode :
    fp0 (exec (.roundWS 0 2) (withF 0x40200000 0 2)) = some (2, 0x1006) ∧
    fp0 (exec (.truncWS 0 2) (withF 0xC0600000 0 2)) = some (0xFFFFFFFD, 0x1006) ∧
    fp0 (exec (.ceilWS 0 2) (withF 0xC0600000 0 2)) = some (0xFFFFFFFD, 0x1006) ∧
    fp0 (exec (.floorWS 0 2) (withF 0xC0600000 0 2)) = some (0xFFFFFFFC, 0x1006) ∧
    fp0 (exec (.roundLD 0 2) (withF 0x4004000000000000 0 2)) = some (2, 0x1006) ∧
    fp0 (exec (.truncLD 0 2) (withF 0xC004000000000000 0 2)) = some (0xFFFFFFFFFFFFFFFE, 0x1006) ∧
    fp0 (exec (.ceilLD 0 2) (withF 0x4004000000000000 0 2)) = some (3, 0x1006) ∧
    fp0 (exec (.floorLD 0 2) (withF 0xC004000000000000 0 2)) = some (0xFFFFFFFFFFFFFFFD, 0x1006) ∧
    fp0 (exec (.roundWD 0 2) (withF 0x4004000000000000 0 2)) = some (2, 0x1006) ∧
    fp0 (exec (.truncWD 0 2) (withF 0xC004000000000000 0 2)) = some (0xFFFFFFFE, 0x1006) ∧
    fp0 (exec (.ceilWD 0 2) (withF 0x4004000000000000 0 2)) = some (3, 0x1006) ∧
    fp0 (exec (.floorWD 0 2) (withF 0xC004000000000000 0 2)) = some (0xFFFFFFFD, 0x1006) ∧
    fp0 (exec (.roundLS 0 2) (withF 0x40200000 0 2)) = some (2, 0x1006) ∧
    fp0 (exec (.truncLS 0 2) (withF 0xC0600000 0 2)) = some (0xFFFFFFFFFFFFFFFD, 0x1006) ∧
    fp0 (exec (.ceilLS 0 2) (withF 0x40200000 0 2)) = some (3, 0x1006) ∧
    fp0 (exec (.floorLS 0 2) (withF 0xC0600000 0 2)) = some (0xFFFFFFFFFFFFFFFC, 0x1006) := by
  decide +kernel

/-- V110, V111, V114 to V116: the other conversions. -/
theorem test_conversions :
    fp0 (exec (.cvtWS 0 2) (withF 0x40200000 0 2)) = some (3, 0x1006) ∧
    fp0 (exec (.cvtWS 0 2) (withF 0x4F000000 0 0)) = some (0x7FFFFFFF, 0x10040) ∧
    fp0 (exec (.cvtWD 0 2) (withF 0x4018000000000000 0 0)) = some (6, 0) ∧
    fp0 (exec (.cvtLD 0 2) (withF 0x4018000000000000 0 0)) = some (6, 0) ∧
    fp0 (exec (.cvtLS 0 2) (withF 0x40C00000 0 0)) = some (6, 0) ∧
    fp0 (exec (.cvtSW 0 2) (withF 0x01000001 0 2)) = some (0x4B800001, 0x1006) ∧
    fp0 (exec (.cvtSD 0 2) (withF 0x3FF0000000000001 0 0)) = some (0x3F800000, 0x1004) ∧
    fp0 (exec (.cvtSL 0 2) (withF 6 0 0)) = some (0x40C00000, 0) ∧
    fp0 (exec (.cvtDS 0 2) (withF 0x3FC00000 0 0)) = some (0x3FF8000000000000, 0) ∧
    fp0 (exec (.cvtDW 0 2) (withF 0xFFFFFFFF 0 0)) = some (0xBFF0000000000000, 0) ∧
    fp0 (exec (.cvtDL 0 2) (withF 6 0 0)) = some (0x4018000000000000, 0) := by
  decide +kernel

/-- FCR31 after an answer. -/
def control (a : Answer) : Option Word := reads a fun t => t.fcr31

/-- R415 to R430, V119, V120: the compares of format S; 1 against 2, 2 against 2, a NaN against 1. -/
theorem test_compares_single :
    control (exec (.cFS 2 4) (withF 0x3F800000 0x40000000 0)) = some 0 ∧
    control (exec (.cUnS 2 4) (withF 0x7FC00000 0x3F800000 0x800)) = some 0x800800 ∧
    control (exec (.cEqS 2 4) (withF 0 0x80000000 0)) = some 0x800000 ∧
    control (exec (.cUeqS 2 4) (withF 0x7FC00000 0x3F800000 0)) = some 0x800000 ∧
    control (exec (.cOltS 2 4) (withF 0x7FC00000 0x3F800000 0x800000)) = some 0 ∧
    control (exec (.cUltS 2 4) (withF 0x40000000 0x3F800000 0)) = some 0 ∧
    control (exec (.cOleS 2 4) (withF 0x40000000 0x40000000 0)) = some 0x800000 ∧
    control (exec (.cUleS 2 4) (withF 0x40000000 0x3F800000 0)) = some 0 ∧
    control (exec (.cSfS 2 4) (withF 0x7FC00000 0x3F800000 0)) = some 0x10040 ∧
    control (exec (.cNgleS 2 4) (withF 0x7FC00000 0x3F800000 0)) = some 0x810040 ∧
    control (exec (.cSeqS 2 4) (withF 0x40000000 0x40000000 0)) = some 0x800000 ∧
    control (exec (.cNglS 2 4) (withF 0x3F800000 0x40000000 0)) = some 0 ∧
    control (exec (.cLtS 2 4) (withF 0x7FC00000 0x3F800000 0x800800)) = some 0x810800 ∧
    control (exec (.cNgeS 2 4) (withF 0x40000000 0x3F800000 0)) = some 0 ∧
    control (exec (.cLeS 2 4) (withF 0 0x80000000 0)) = some 0x800000 ∧
    control (exec (.cNgtS 2 4) (withF 0x7FC00000 0x3F800000 0)) = some 0x810040 := by
  decide +kernel

/-- R414: the compares of format D on the same cases; 1, 2 and a NaN. -/
theorem test_compares_double :
    let one : Dword := 0x3FF0000000000000
    let two : Dword := 0x4000000000000000
    let nan : Dword := 0x7FF8000000000000
    control (exec (.cFD 2 4) (withF one two 0)) = some 0 ∧ control (exec (.cUnD 2 4) (withF nan one 0)) = some 0x800000 ∧
    control (exec (.cEqD 2 4) (withF one two 0)) = some 0 ∧ control (exec (.cUeqD 2 4) (withF nan one 0)) = some 0x800000 ∧
    control (exec (.cOltD 2 4) (withF one two 0)) = some 0x800000 ∧ control (exec (.cUltD 2 4) (withF two one 0)) = some 0 ∧
    control (exec (.cOleD 2 4) (withF two two 0)) = some 0x800000 ∧ control (exec (.cUleD 2 4) (withF two one 0)) = some 0 ∧
    control (exec (.cSfD 2 4) (withF nan one 0)) = some 0x10040 ∧
    control (exec (.cNgleD 2 4) (withF nan one 0)) = some 0x810040 ∧
    control (exec (.cSeqD 2 4) (withF two two 0)) = some 0x800000 ∧ control (exec (.cNglD 2 4) (withF one two 0)) = some 0 ∧
    control (exec (.cLtD 2 4) (withF one two 0)) = some 0x800000 ∧ control (exec (.cNgeD 2 4) (withF two one 0)) = some 0 ∧
    control (exec (.cLeD 2 4) (withF two two 0)) = some 0x800000 ∧
    control (exec (.cNgtD 2 4) (withF nan one 0)) = some 0x810040 := by
  decide +kernel

/-- V125, V126, V129, V130, V132: the system instructions. -/
theorem test_system :
    reads (exec .eret { withStatus plain 7 with cop0 := { (withStatus plain 7).cop0 with errorEpc := 0x3000, epc := 0x1000 } })
      (fun t => (t.cop0.status, t.pc)) = some (3, 0x3000) ∧
    raises (exec (.syscall 5) plain) = some (some .syscall) ∧ raises (exec (.brk 5) plain) = some (some .breakpoint) ∧
    reads (exec .sync plain) id = some { plain with pc := 0x1004 } ∧
    reads (exec (.cache 0 9 0) (withT 0x20001 0)) id = some { withT 0x20001 0 with pc := 0x1004 } ∧
    raises (exec (.cache 0 9 0) user) = some (some (.coprocessorUnusable 0)) ∧
    raises (execDecoded .cop2 plain) = some (some (.coprocessorUnusable 2)) ∧
    raises (execDecoded .reserved plain) = some (some .reservedInstruction) ∧
    control (execDecoded .fpUnimplementedFormat (withF 0 0 0xF83)) = some 0x20F83 ∧
    stop (exec .tlbr plain) = some (.inr .tlbOutsideBlock) ∧ stop (exec .tlbwi plain) = some (.inr .tlbOutsideBlock) ∧
    stop (exec .tlbwr plain) = some (.inr .tlbOutsideBlock) ∧ stop (exec .tlbp plain) = some (.inr .tlbOutsideBlock) := by
  decide +kernel

/-- V127, V128: the traps, on equal operands and on minus one against zero or five. -/
theorem test_traps :
    raises (exec (.tge 9 10 0) (withT 5 5)) = some (some .trap) ∧
    raises (exec (.tgeu 9 10 0) (withT 0xFFFFFFFFFFFFFFFF 0)) = some (some .trap) ∧
    raises (exec (.tlt 9 10 0) (withT 0xFFFFFFFFFFFFFFFF 0)) = some (some .trap) ∧
    raises (exec (.tltu 9 10 0) (withT 0xFFFFFFFFFFFFFFFF 0)) = some none ∧
    raises (exec (.teq 9 10 0) (withT 5 5)) = some (some .trap) ∧ raises (exec (.tne 9 10 0) (withT 5 5)) = some none ∧
    raises (exec (.tgei 9 5) (withT 4 0)) = some none ∧
    raises (exec (.tgeiu 9 5) (withT 0xFFFFFFFFFFFFFFFF 0)) = some (some .trap) ∧
    raises (exec (.tlti 9 5) (withT 0xFFFFFFFFFFFFFFFF 0)) = some (some .trap) ∧
    raises (exec (.tltiu 9 5) (withT 0xFFFFFFFFFFFFFFFF 0)) = some none ∧
    raises (exec (.teqi 9 5) (withT 5 0)) = some (some .trap) ∧
    raises (exec (.tnei 9 5) (withT 5 0)) = some none := by
  decide +kernel

/-! ## The Step, dispatch, return, reset -/

/-- `plain` with the word of an instruction where the next Step fetches. -/
def running (s : State) (w : Word) : State := s.withFetchWord 32 w.toNat

/-- V138, V142, V143: the tick. -/
theorem test_tick :
    (let s := { withStatus plain 0x401 with inputs := ⟨3, 2, false, false⟩ }.tick
     (s.cop0.cause, s.cop0.epc, s.cop0.status, s.pc)) = (0x400, 0x1000, 0x403, 0x180) ∧
    (let s := { withStatus plain 0x8000 with cop0 := { (withStatus plain 0x8000).cop0 with count := 99, compare := 100 } }.tick
     (s.cop0.count, s.cop0.cause, s.pc)) = (0, 0x8000, 0x1000) ∧
    { plain with cop0 := { plain.cop0 with count := 0xFFFFFFFF } }.tick.cop0.count = 0 := by
  decide +kernel

/-- V134, V135, V137, V144: the dispatch. -/
theorem test_dispatch :
    (let s := { plain with pending := { plain.pending with sync := some .overflow }, cfg := Config.default }.tick
     (s.cop0.epc, s.cop0.cause, s.cop0.status, s.pc)) = (0x1000, 0x30, 2, 0xFFFFFFFF80000180) ∧
    (withStatus { plain with cfg := Config.default } 0x400000).vector (.sync .overflow) = 0xFFFFFFFFBFC00380 ∧
    (let s := { plain with
        pending := { plain.pending with sync := some (.addressErrorLoad 0x2001) }
        cop0 := { plain.cop0 with status := 2, epc := 0x5000, cause := 0x80000030 } }.tick
     (s.cop0.epc, s.cop0.cause, s.pc)) = (0x5000, 0x80000010, 0x180) ∧
    (let s := { withStatus plain 2 with
        inputs := ⟨0, 0, false, true⟩, bu := ⟨true, true, false, 0x2000, false⟩ }.tick
     (s.cop0.errorEpc, s.cop0.cause, s.cop0.status, s.pc)) = (0xFFC, 0x80000000, 6, 0xFFFFFFFFBFC00000) := by
  decide +kernel

/-- R162, R163, R168: an instruction in a delay slot goes to the target; a nullified slot is skipped; an injected word runs
in the fetched one's stead. -/
theorem test_step :
    reads (step { running (withT 5 6) 0x012A4020 with bu := ⟨true, true, false, 0x2000, false⟩ })
      (fun t => (t.readReg 8, t.pc, t.bu.branchDelayPending)) = some (11, 0x2000, false) ∧
    reads (step { running (withT 5 6) 0x012A4020 with bu := ⟨false, false, false, 0, true⟩ })
      (fun t => (t.readReg 8, t.pc, t.bu.nullifyNext)) = some (0, 0x1004, false) ∧
    reads (step { running (withT 5 6) 0x00000000 with inject := some 0x012A4020 })
      (fun t => (t.readReg 8, t.pc, t.inject)) = some (11, 0x1004, none) ∧
    reads (step (running plain 0x0000000C)) (fun t => (t.pending.sync, t.pc, t.cop0.count)) =
      some (some .syscall, 0x1000, 1) := by
  decide +kernel

/-- U16, U3: a state without a mode takes no Step; a branch in a delay slot is refused. -/
theorem test_stops :
    stop (step (withStatus plain 0x18)) = some (.inl .undefinedMode) ∧
    stop (exec (.beq 0 0 3) { plain with bu := ⟨true, true, false, 0x2000, false⟩ }) =
      some (.inr .controlTransferInDelaySlot) := by
  decide +kernel

/-- R74, R541: the first Step after reset fetches at the reset vector, and runs what stands there. -/
theorem test_reset :
    State.reset.pc = 0xFFFFFFFFBFC00000 ∧ State.reset.mode? = some .kernel ∧
    reads (step (State.reset.withFetchWord 32 0x3C088000)) (fun t => (t.readReg 8, t.pc)) =
      some (0xFFFFFFFF80000000, 0xFFFFFFFFBFC00004) := by
  decide +kernel

/-- V133: an overlapping copy; U19: a length that is no multiple of four. -/
theorem test_bulk_copy :
    reads (bulkCopy 0x2000 0x2004 4 plain) (fun t => bigEndianValue ((List.range 8).map fun j => Memory.read t.mem (0x2000 + j)))
      = some 0x1122334411223344 ∧
    stop (bulkCopy 0x2000 0x2004 6 plain) = some (.inr .bulkCopyLength) := by
  decide +kernel

/-! ## Witnesses: for every statement with hypotheses, a state and operands that meet them, clause by clause -/

theorem witness_ResetLeavesTheStatedValues :
    (⟨1, 1, true, false⟩ : Inputs).nmiReq = false ∧ ∀ k ∈ [0, 1, 3, 18, 24, 26, 28, 31],
      k < 32 ∧ k ≠ 2 ∧ k ≠ 19 ∧ k ≠ 20 ∧ k ≠ 21 ∧ k ≠ 22 ∧ k ≠ 23 ∧ k ≠ 27 := by
  decide +kernel

theorem witness_ResetMeetsTheInvariant :
    mapWf defaultMap = true ∧ mapWf plain.map = true := by
  decide +kernel

theorem witness_EveryStepKeepsTheInvariant :
    (running (withT 5 6) 0x012A4020).Inv ∧
      reads (step (running (withT 5 6) 0x012A4020)) (fun t => t.pc) = some 0x1004 := by
  refine ⟨⟨?_, ?_, ?_, ?_, ?_, ?_, ?_, ?_, ?_, ?_⟩, ?_⟩ <;> decide +kernel

theorem witness_DecodeOfEncodeIsTheInstruction :
    (Instr.syscall 0xFFFFF).wellFormed = true ∧ (Instr.tne 31 31 0x3FF).wellFormed = true ∧
      (Instr.cache 31 31 0xFFFF).wellFormed = true := by
  decide +kernel

theorem witness_WordSelectsTheRowItDecodesTo :
    decode 0x012A4020#32 = .instr (.add 8 9 10) ∧
      0x012A47E0#32 &&& (Instr.add 0 0 0).row.1 = (Instr.add 0 0 0).row.2 := by
  decide +kernel

theorem witness_Cop2AndUnimplementedFormats :
    plain.cu2 = false ∧ (withStatus plain 0x40000000).cu2 = true ∧ plain.cu1 = false ∧ (withF 0 0 0).cu1 = true := by
  decide +kernel

theorem witness_StepRunsTheFetchedInstruction :
    let s := running (withT 5 6) 0x012A4020
    s.mode? = some .kernel ∧ s.tick.bu.nullifyNext = false ∧ s.tick.inject = none ∧ s.tick.pc.toNat % 4 = 0 ∧
      memRead s.tick (trunc32 s.tick.pc) 4 = .ok 0x012A4020 s.tick ∧
      decode (trunc32 (0x012A4020 : Dword)) = .instr (.add 8 9 10) ∧ (Instr.add 8 9 10).wellFormed = true := by
  decide +kernel

/-- `s` under `TranslateKseg` with a `TlbStub`, or with none. -/
def underKseg (s : State) (stub : Option TlbStub) : State := { s with cfg := { s.cfg with translate := .kseg, tlbStub := stub } }

/-- A `TlbStub` with a mapped range, a range that answers the XTLB refill, and a miss that answers the TLB refill. -/
def stub : TlbStub := ⟨[⟨0x4000, 0x1000, .mapped 0x2000⟩, ⟨0x6000, 0x1000, .refill .xtlb⟩], .tlb⟩

/-- An address that no window covers, in a state with the map of `plain`. -/
theorem noDevice {s : State} {va : Dword} {n : Nat} (h : translateAddr s.cfg (trunc32 va) = some (trunc32 va))
    (m : resolve s.map (trunc32 va).toNat = none) : FindsNoDevice s va n :=
  ⟨_, h, fun w off e => by rw [m] at e; cases e⟩

/-- An access that leaves its window. -/
theorem leavesWindow {s : State} {va : Dword} {n off : Nat} {w : Window}
    (h : translateAddr s.cfg (trunc32 va) = some (trunc32 va))
    (m : resolve s.map (trunc32 va).toNat = some (w, off)) (l : w.length < off + n) : FindsNoDevice s va n :=
  ⟨_, h, fun w' off' e => by rw [m] at e; cases e; exact l⟩

theorem witness_InjectedWordsNullifiedSlotsAndFailedFetches :
    (let s := { plain with inject := some 0x012A4020 }
     s.mode? = some .kernel ∧ s.tick.bu.nullifyNext = false ∧ s.inject = some 0x012A4020) ∧
    (let s := { plain with bu := ⟨false, false, false, 0, true⟩ }
     s.mode? = some .kernel ∧ s.tick.bu.nullifyNext = true) ∧
    (∀ pc ∈ [0x1001, 0x1003], let s := { plain with pc := BitVec.ofNat 64 pc }
     s.mode? = some .kernel ∧ s.tick.bu.nullifyNext = false ∧ s.inject = none ∧ s.tick.pc.toNat % 4 ≠ 0) ∧
    (let s := { plain with pc := 0x10000 }
     s.tick.pc.toNat % 4 = 0 ∧ FindsNoDevice s.tick s.tick.pc 4) ∧
    (Sys2Proof.Machine.translate (underKseg plain none).cfg (trunc32 (underKseg plain none).tick.pc) = .outsideBlock ∧
      Sys2Proof.Machine.translate (underKseg plain stub).cfg (trunc32 (underKseg plain stub).tick.pc) = .refill .tlb ∧
      (let s := underKseg { plain with pc := 0x6000 } stub
       Sys2Proof.Machine.translate s.cfg (trunc32 s.tick.pc) = .refill .xtlb)) :=
  ⟨by decide +kernel, by decide +kernel, by decide +kernel,
    ⟨by decide +kernel, noDevice (by decide +kernel) (by decide +kernel)⟩, by decide +kernel⟩

/-- `plain` with values in Count and Compare. -/
def timed (count compare : Word) : State := { plain with cop0 := { plain.cop0 with count := count, compare := compare } }

theorem witness_TickTimerAndInputs :
    ((timed 99 100).cop0.compare ≠ 0 ∧ (timed 99 100).cop0.count + 1 = (timed 99 100).cop0.compare) ∧
    (timed 0xFFFFFFFF 0).cop0.compare = 0 ∧ (timed 0 2).cop0.count + 1 ≠ (timed 0 2).cop0.compare ∧
    ((timed 0 1).cop0.count = 0 ∧ 0 < (timed 0 1).cop0.compare.toNat ∧ 0 + 1 = (timed 0 1).cop0.compare.toNat) ∧
    (⟨0, 0, false, true⟩ : Inputs).nmiReq = true := by
  decide +kernel

/-- `plain` with a pending synchronous exception and requests. -/
def pending (sync : Option Exc) (nmi xtlb cacheErr : Bool) : State :=
  { plain with pending := ⟨sync, nmi, xtlb, false, false, cacheErr⟩ }

/-- What is pending when the tick chooses. -/
def choice (s : State) : Bool × Bool × Bool × Option Exc :=
  (s.timer.sampleInputs.pending.nmi, s.timer.sampleInputs.pending.xtlb, s.timer.sampleInputs.pending.cacheErr,
    s.timer.sampleInputs.pending.sync)

theorem witness_OneEventInPriorityOrder :
    choice (pending (some .trap) true true true) = (true, true, true, some .trap) ∧
    choice (pending (some .trap) false true true) = (false, true, true, some .trap) ∧
    choice (pending (some .trap) false false true) = (false, false, true, some .trap) ∧
    choice (pending (some .trap) false false false) = (false, false, false, some .trap) ∧
    choice plain = (false, false, false, none) := by
  decide +kernel

theorem witness_OneEventInPriorityOrder_interrupt :
    (∀ k ∈ [0, 7], let s := withStatus { plain with cop0 := { plain.cop0 with cause := 0x8100 } } 0x8101
      s.ie = true ∧ s.exl = false ∧ s.erl = false ∧ k < 8 ∧ s.timer.sampleInputs.ip.getLsbD k = true ∧
        s.im.getLsbD k = true) ∧
    plain.ie = false ∧ (withStatus plain 3).exl = true ∧ (withStatus plain 5).erl = true ∧
    ∀ k < 8, plain.timer.sampleInputs.ip.getLsbD k = true → plain.im.getLsbD k = false := by
  decide +kernel

theorem witness_DispatchBookkeeping :
    (Event.interrupt ≠ .nmi ∧ Event.interrupt ≠ .cacheError) ∧ plain.exl = false ∧ (withStatus plain 2).exl = true ∧
    (∀ k ∈ [0, 1, 7, 27, 30], k < 2 ∨ (6 < k ∧ k < 28) ∨ k = 30) ∧ (∀ w, Event.interrupt ≠ .xtlbRefill w) := by
  decide +kernel

theorem witness_ExceptionCodesAndVectors :
    (plain.exl = false ∧ Event.sync (.tlbRefill true) ≠ .nmi) ∧ (withStatus plain 2).exl = true ∧
    ((∀ w, Event.interrupt ≠ .sync (.tlbRefill w)) ∧ ∀ w, Event.interrupt ≠ .xtlbRefill w) ∧
    (Event.cacheError ≠ .nmi ∧ (withStatus plain 2).vector .cacheError = 0x100 ∧
      (withStatus plain 2).vector .interrupt = 0x180) ∧
    plain.cfg.directVector = true ∧ Config.default.directVector = false ∧ plain.bev = false ∧
    State.reset.bev = true := by
  decide +kernel

theorem witness_RaisedExceptionReachesItsHandler :
    raises (execDecoded (.instr (.syscall 0)) plain) = some (some .syscall) ∧ plain.pending.sync = none ∧
      plain.pending.nmi = false ∧ plain.inputs.nmiReq = false ∧ plain.pending.xtlb = false ∧
      plain.pending.cacheErr = false ∧ plain.exl = false := by
  decide +kernel

theorem witness_EretReturns :
    (∀ k ∈ [2, 4, 6], let s := withStatus plain (BitVec.ofNat 32 k); Cop0Usable s ∧ s.bu.branchDelayPending = false) ∧
      (withStatus plain 4).erl = true ∧ (withStatus plain 2).erl = false := by
  unfold Cop0Usable
  decide +kernel

theorem witness_ReturnUndoesTheDispatch : plain.exl = false ∧ plain.erl = false := by
  decide +kernel

theorem witness_RaiseHasNoOtherEffect :
    plain.pending.sync = none ∧ raises (execDecoded .reserved plain) = some (some .reservedInstruction) ∧
      raises (execDecoded (.instr (.lw 8 0 0x2001)) plain) = some (some (.addressErrorLoad 0x2001)) ∧
      raises (execDecoded (.instr (.sw 8 0 0x2003)) plain) = some (some (.addressErrorStore 0x2003)) ∧
      raises (execDecoded .fpUnimplementedFormat (withF 0 0 0)) = some (some .floatingPoint) ∧
      (plain.pending.xtlb = false ∧
        reads (execDecoded (.instr (.lw 8 0 0x6000)) (underKseg plain stub)) (fun t => t.pending.xtlb) = some true) := by
  decide +kernel

theorem witness_ModeAndOperatingWidth :
    plain.ksu = 0 ∧ (withStatus plain 2).exl = true ∧ (withStatus plain 4).erl = true ∧
    (∀ k ∈ [(1 : Nat), 2, 3], let s := withStatus plain (BitVec.ofNat 32 (8 * k))
      s.exl = false ∧ s.erl = false ∧ s.ksu = BitVec.ofNat 2 k) := by
  decide +kernel

theorem witness_ReservedIn32BitMode : (Instr.dadd 8 9 10).reserved32 = true ∧ user.op64? = some false := by
  decide +kernel

theorem witness_CoprocessorUsableGates :
    ((Instr.dmfc1 8 2).usesCop1 = true ∧ plain.op64? = some true ∧ plain.cu1 = false) ∧
    ((Instr.addS 0 2 4).usesCop1 = true ∧ (Instr.addS 0 2 4).reserved32 = false) ∧
    ((Instr.mfc0 8 12).usesCop0 = true ∧ (Instr.mfc0 8 12).reserved32 = false ∧ user.cu0 = false ∧
      user.mode? = some .user ∧ (withStatus plain 8).mode? = some .supervisor) := by
  decide +kernel

/-- `s` with the instruction at the pc in the delay slot of a taken branch. -/
def inSlot (s : State) : State := { s with bu := ⟨true, true, false, 0x2000, false⟩ }

theorem witness_StopsWithoutMeaning :
    (∀ i ∈ [Instr.beq 0 0 3, .eret, .bc1f 3], i.isTransfer = true ∧
      (inSlot (withF 0 0 0)).bu.branchDelayPending = true ∧ (inSlot (withF 0 0 0)).cu1 = true ∧
      Cop0Usable (inSlot (withF 0 0 0))) := by
  unfold Cop0Usable
  decide +kernel

theorem witness_UserModeCannotChangeCoprocessor0 :
    user.mode? = some .user ∧ user.cu0 = false ∧ (withStatus plain 8).mode? = some .supervisor ∧
      reads (exec (.ll 8 0 0x2000) user) (fun t => decide (t.cop0.llAddr ≠ user.cop0.llAddr)) = some true := by
  decide +kernel

theorem witness_OnlyTheirInstructionsWriteHiLoAndTheConditionFlag :
    reads (exec (.mthi 9) (withT 1 0)) (fun t => decide (t.hi ≠ (withT 1 0).hi)) = some true ∧
      reads (exec (.mtlo 9) (withT 1 0)) (fun t => decide (t.lo ≠ (withT 1 0).lo)) = some true ∧
      reads (exec (.cEqS 2 4) (withF 0 0 0)) (fun t => t.fcr31.getLsbD 23) = some true ∧
      (withF 0 0 0).fcr31.getLsbD 23 = false := by
  decide +kernel

theorem witness_OnlyLinkedLoadsAndEretChangeTheLinkBit :
    reads (exec (.ll 8 0 0x2000) plain) (fun t => decide (t.llBit ≠ plain.llBit)) = some true ∧
      reads (exec .eret { plain with llBit := true }) (fun t => t.llBit) = some false ∧
      reads (bulkCopy 0x2000 0x2004 4 plain) (fun t => t.llBit) = some false := by
  decide +kernel

theorem witness_InstructionsKeepTheHiddenState :
    reads (execDecoded (.instr (.add 8 9 10)) plain) (fun t => t.pc) = some 0x1004 ∧
      Decoded.instr (.add 8 9 10) ≠ .instr .eret ∧ plain.cfg.tlbStub = none ∧
      reads (execDecoded (.instr (.sw 8 0 0x6000)) (underKseg plain stub)) (fun t => (t.pending.xtlb, t.pending.xtlbStore)) =
        some (true, true) := by
  decide +kernel

theorem witness_OnlyStoresChangeMemoryAndOneRegisterAtMost :
    reads (exec (.lw 8 0 0x2000) plain) (fun t => t.readReg 8) = some 0x11223344 ∧
      (opOf (encode (.lw 8 0 0x2000))).toNat ∉ [40, 41, 42, 43, 44, 45, 46, 56, 57, 60, 61, 63] := by
  decide +kernel

/-- The four boundaries of each trapping width: the largest and the least result, and one beyond each. -/
theorem witness_IntegerAddSubtract :
    plain.op64? = some true ∧
    (∀ n ∈ [32, 64], ∀ x ∈ [-(2 ^ (n - 1) : Int), 2 ^ (n - 1) - 1], -(2 ^ (n - 1)) ≤ x ∧ x ≤ 2 ^ (n - 1) - 1) ∧
    ((withT 0x7FFFFFFF 0).readWord 9).toInt + ((withT 0x7FFFFFFF 0).readWord 10).toInt = 2 ^ 31 - 1 ∧
    2 ^ (32 - 1) - 1 < ((withT 0x7FFFFFFF 1).readWord 9).toInt + ((withT 0x7FFFFFFF 1).readWord 10).toInt ∧
    ((withT 0x80000000 1).readWord 9).toInt - ((withT 0x80000000 1).readWord 10).toInt < -(2 ^ (32 - 1)) ∧
    2 ^ (64 - 1) - 1 < ((withT 0x7FFFFFFFFFFFFFFF 1).readReg 9).toInt + ((withT 0x7FFFFFFFFFFFFFFF 1).readReg 10).toInt := by
  decide +kernel

theorem witness_MultiplyIsExactAndDivideTruncates :
    plain.op64? = some true ∧ (withT 0 1).readWord 10 ≠ 0 ∧ (withT 0 0xFFFFFFFFFFFFFFFF).readReg 10 ≠ 0 := by
  decide +kernel

/-- A divisor that is zero, one whose low word alone is zero, and dividends of zero and minus one. -/
theorem witness_DivideByZeroTable :
    (withT 0 0).readWord 10 = 0 ∧ (withT 0 0x100000000).readWord 10 = 0 ∧ (withT 0 0).readReg 10 = 0 ∧
    plain.op64? = some true ∧ 0 ≤ ((withT 0 0).readWord 9).toInt ∧
    ((withT 0xFFFFFFFFFFFFFFFF 0).readWord 9).toInt < 0 ∧ 0 ≤ ((withT 0 0).readReg 9).toInt ∧
    ((withT 0xFFFFFFFFFFFFFFFF 0).readReg 9).toInt < 0 := by
  decide +kernel

theorem witness_ShiftsMoveBits :
    (plain.cfg.vshift32 = .six ∧ 63 = ((withT 0xFFFF 0).readReg 9).toNat % 64) ∧
    (({ Config.default with vshift32 := .five } : Config).vshift32 = .five ∧
      31 = ((withT 0xFFFF 0).readReg 9).toNat % 32) ∧ plain.op64? = some true := by
  decide +kernel

theorem witness_SetOnLessThanLogicAndLui :
    plain.op64? = some true ∧ user.op64? = some false ∧ plain.cfg.sltImm = .sign ∧
    ({ Config.default with sltImm := .zero } : Config).sltImm = .zero := by
  decide +kernel

/-- `plain` with a value in Wired. -/
def wired (w : Word) : State := { plain with cop0 := { plain.cop0 with wired := w } }

theorem witness_Coprocessor0Reads :
    Cop0Usable plain ∧ Cop0Usable (withStatus plain 0x10000010) ∧ plain.op64? = some true ∧
    (wired 0).cop0.wired.toNat % 64 ≤ 31 ∧ (wired 31).cop0.wired.toNat % 64 ≤ 31 ∧
    ¬(wired 32).cop0.wired.toNat % 64 ≤ 31 ∧
    (∀ n ∈ [(7 : Reg), 21, 25, 31], n.toNat ∈ [7, 21, 22, 23, 24, 25, 31]) := by
  unfold Cop0Usable
  decide +kernel

theorem witness_Coprocessor0Writes :
    Cop0Usable plain ∧ plain.op64? = some true ∧ ((11 : Reg), false, (0xFFFFFFFFFFFFFFFF : Dword)) ∈ writableC0 ∧
    (∀ wide mask, ((15 : Reg), wide, mask) ∉ writableC0) := by
  refine ⟨by unfold Cop0Usable; decide +kernel, by decide +kernel, by decide +kernel, ?_⟩
  intro wide mask h
  simp [writableC0] at h

theorem witness_FloatingPointRegisterViews :
    (withStatus plain 0x24000000).fr = true ∧ (withF 0 0 0).fr = false ∧
    (∀ e ∈ [(0 : Reg), 30], e.getLsbD 0 = false) ∧ (31 : Reg) = 30 + 1 := by
  decide +kernel

theorem witness_Coprocessor1Transfers :
    (withF 0 0 0).cu1 = true ∧ (withF 0 0 0).op64? = some true ∧ (2 : Reg).getLsbD 0 = false ∧
    (withF 0 0 0).fr = false ∧ (31 : Reg).getLsbD 0 = true ∧
    (∀ n ∈ [(1 : Reg), 30], 1 ≤ n.toNat ∧ n.toNat ≤ 30) := by
  decide +kernel

/-- Both outcomes of a condition on each of the three kinds of branch. -/
theorem witness_ConditionalBranches :
    plain.bu.branchDelayPending = false ∧ (withF 0 0 0).bu.branchDelayPending = false ∧ (withF 0 0 0).cu1 = true ∧
    (withT 7 7).readReg 9 = (withT 7 7).readReg 10 ∧ (withT 7 8).readReg 9 ≠ (withT 7 8).readReg 10 ∧
    ((withT 0 0).readReg 9).toInt ≤ 0 ∧ 0 < ((withT 1 0).readReg 9).toInt ∧
    ((withT 0x8000000000000000 0).readReg 9).toInt < 0 ∧ (withF 0 0 0).fcr31.getLsbD 23 = false ∧
    (withF 0 0 0x800000).fcr31.getLsbD 23 = true := by
  decide +kernel

theorem witness_JumpsSetTheBranchUnit :
    plain.bu.branchDelayPending = false ∧
      (0x1000 : Dword) = ((plain.pc + 4) &&& 0xFFFFFFFFF0000000#64) + BitVec.ofNat 64 (4 * (0x400 : BitVec 26).toNat) := by
  decide +kernel

/-- The RAM window of `plain`. -/
def ram : Window := ⟨0, 0x10000, .ram 0 0x8000⟩

/-- Both ends of the two unmapped segments, an address of each answer of the stub, a window and what is outside it, two
devices, and the bytes of a load. -/
theorem witness_AddressesAndByteOrder :
    (∀ a ∈ [0x80000000, 0xBFFFFFFF], 0x80000000 ≤ (BitVec.ofNat 32 a).toNat ∧ (BitVec.ofNat 32 a).toNat ≤ 0xBFFFFFFF) ∧
    (∀ a ∈ [0x7FFFFFFF, 0xC0000000],
      (BitVec.ofNat 32 a).toNat < 0x80000000 ∨ 0xBFFFFFFF < (BitVec.ofNat 32 a).toNat) ∧
    (plain.cfg.translate = .identity ∧ (underKseg plain stub).cfg.translate = .kseg ∧ plain.cfg.tlbStub = none ∧
      (underKseg plain stub).cfg.tlbStub = some stub) ∧
    (∀ r ∈ stub.ranges, (0x3FFF : Word).toNat < r.base ∨ r.base + r.length ≤ (0x3FFF : Word).toNat) ∧
    (stub.ranges = [⟨0x4000, 0x1000, .mapped 0x2000⟩] ++ ⟨0x6000, 0x1000, .refill .xtlb⟩ :: [] ∧
      (0x5000 : Word).toNat ≥ 0x4000 + 0x1000 ∧ 0x6000 ≤ (0x6FFF : Word).toNat ∧ (0x6FFF : Word).toNat < 0x6000 + 0x1000) ∧
    mapWf plain.map = true ∧ mapWf defaultMap = true ∧ ram ∈ plain.map ∧ (0xFFFF : Nat) < ram.base + ram.length ∧
    (∀ w ∈ plain.map, 0x10000 < w.base ∨ w.base + w.length ≤ 0x10000) ∧
    (⟨0x1FC00000, 0x7C0, .storage 0x1FC00000 0x7C0⟩ ∈ defaultMap ∧ ⟨0x10000000, 0x0FC00000, .rom 0x10000000 0x0FC00000⟩ ∈ defaultMap ∧
      resolve defaultMap 0x1FC007BF = some (⟨0x1FC00000, 0x7C0, .storage 0x1FC00000 0x7C0⟩, 0x7BF) ∧
      Device.storage 0x1FC00000 0x7C0 ≠ .rom 0x10000000 0x0FC00000) ∧
    plain.mem.wf = true ∧
    ∀ n ∈ [1, 8], n ≤ 8 ∧ ∀ j < n, deviceByte ram.device plain.mem (0x2000 + j) = some (BitVec.ofNat 8 (0x11 * (j + 1))) := by
  decide +kernel

/-- An access of `n` bytes at an address below the end of the window reaches it, where the address is not translated. -/
theorem reachesRam {s : State} {va : Dword} {n : Nat} (h : translateAddr s.cfg (trunc32 va) = some (trunc32 va))
    (m : resolve s.map (trunc32 va).toNat = some (ram, (trunc32 va).toNat)) (l : (trunc32 va).toNat + n ≤ ram.length) :
    Reaches s va n ram (trunc32 va).toNat := ⟨_, h, m, l⟩

/-- The last bytes of the window and, in 32-bit operation, the same; LDC1 of an odd register with FR = 0. -/
theorem witness_AlignedLoads :
    (plain.op64? = some true ∧ user.op64? = some false) ∧
    (∀ n ∈ [1, 2, 4, 8], AlignedFor plain (0x10000 - BitVec.ofNat 64 n) n ∧
      Reaches plain (0x10000 - BitVec.ofNat 64 n) n ram (0x10000 - n)) ∧
    dataAddress plain true 0 0x2000 = 0x2000 ∧ AlignedFor (withF 0 0 0) 0x2000 8 ∧
    Reaches (withF 0 0 0) 0x2000 8 ram 0x2000 ∧ (withF 0 0 0).cu1 = true ∧ (withF 0 0 0).fr = false ∧
    (31 : Reg).getLsbD 0 = true ∧ (30 : Reg).getLsbD 0 = false := by
  refine ⟨by decide +kernel, ?_, by decide +kernel, Or.inr (by decide +kernel),
    reachesRam (by decide +kernel) (by decide +kernel) (by decide +kernel), by decide +kernel⟩
  intro n h
  simp only [List.mem_cons, List.not_mem_nil, or_false] at h
  rcases h with rfl | rfl | rfl | rfl <;>
    exact ⟨Or.inr (by decide +kernel), reachesRam (by decide +kernel) (by decide +kernel) (by decide +kernel)⟩

theorem witness_AlignedStores :
    plain.op64? = some true ∧ plain.mem.wf = true ∧ AlignedFor plain 0x7FF8 8 ∧ Reaches plain 0x7FF8 8 ram 0x7FF8 ∧
    AlignedFor plain 0x8000 8 ∧ Reaches plain 0x8000 8 ram 0x8000 ∧ (withF 0 0 0).cu1 = true ∧
    (withF 0 0 0).fr = false ∧ (30 : Reg).getLsbD 0 = false ∧ (31 : Reg).getLsbD 0 = true ∧
    AlignedFor (withF 0 0 0) 0x2000 8 :=
  ⟨by decide +kernel, by decide +kernel, Or.inr (by decide +kernel),
    reachesRam (by decide +kernel) (by decide +kernel) (by decide +kernel), Or.inr (by decide +kernel),
    reachesRam (by decide +kernel) (by decide +kernel) (by decide +kernel), by decide +kernel, by decide +kernel,
    by decide +kernel, by decide +kernel, Or.inr (by decide +kernel)⟩

/-- The datum of the first and of the last remainder. -/
theorem witness_UnalignedLoadsAndStores :
    plain.op64? = some true ∧ plain.mem.wf = true ∧
    (∀ r ∈ [(0 : Nat), 7], Reaches plain (0x2000 + BitVec.ofNat 64 r - BitVec.ofNat 64 ((0x2000 + BitVec.ofNat 64 r : Dword).toNat % 8))
      8 ram 0x2000) ∧
    ∀ r ∈ [(0 : Nat), 3], Reaches plain (0x2000 + BitVec.ofNat 64 r - BitVec.ofNat 64 ((0x2000 + BitVec.ofNat 64 r : Dword).toNat % 4))
      4 ram 0x2000 := by
  refine ⟨by decide +kernel, by decide +kernel, ?_, ?_⟩ <;>
    (intro r h
     simp only [List.mem_cons, List.not_mem_nil, or_false] at h
     rcases h with rfl | rfl <;> exact reachesRam (by decide +kernel) (by decide +kernel) (by decide +kernel))

theorem witness_LeftAndRightLoadsMakeTheDatum :
    (∀ n ∈ [0, 3], n < 4 ∧ (n = 0 → (1 : Word) = 1)) ∧ ∀ n ∈ [0, 7], n < 8 ∧ (n = 0 → (1 : Dword) = 1) := by
  decide +kernel

theorem witness_LinkedLoadsAndConditionalStores :
    plain.op64? = some true ∧ AlignedFor plain 0x2000 8 ∧ Reaches plain 0x2000 8 ram 0x2000 ∧
    translateAddr plain.cfg (trunc32 (0x2000 : Dword)) = some 0x2000 ∧ plain.llBit = false ∧
    ({ plain with llBit := true } : State).llBit = true ∧ plain.mem.wf = true :=
  ⟨by decide +kernel, Or.inr (by decide +kernel),
    reachesRam (by decide +kernel) (by decide +kernel) (by decide +kernel), by decide +kernel, by decide +kernel,
    by decide +kernel, by decide +kernel⟩

/-- With coprocessor 1 unusable, the ordinary kernel state, and usable with FR = 0. -/
theorem witness_MisalignedAccessesRaise :
    ∀ s ∈ [plain, withF 0 0 0], s.cfg.misaligned = .trap ∧ s.op64? = some true ∧ user.op64? = some false ∧
    (∀ o ∈ [0x2001, 0x2003, 0x2007], ∀ n ∈ [2, 4, 8], (dataAddress s true 0 (BitVec.ofNat 16 o)).toNat % n ≠ 0) ∧
    (dataAddress s true 0 0x2004).toNat % 8 ≠ 0 ∧ plain.cu1 = false ∧ (withF 0 0 0).cu1 = true := by
  decide +kernel

/-- No window at all, and a window that the access leaves. -/
theorem witness_AccessesWithoutDeviceRaise :
    (withF 0 0 0).op64? = some true ∧ (withF 0 0 0).cu1 = true ∧ (30 : Reg).getLsbD 0 = false ∧
    ({ withF 0 0 0 with llBit := true } : State).llBit = true ∧
    (∀ n ∈ [1, 2, 4, 8], AlignedFor (withF 0 0 0) 0xFFFFFFFFFFFF8000 n ∧ FindsNoDevice (withF 0 0 0) 0xFFFFFFFFFFFF8000 n) ∧
    dataAddress (withF 0 0 0) true 0 0x8000 = 0xFFFFFFFFFFFF8000 ∧
    FindsNoDevice { plain with cfg := { plain.cfg with misaligned := .perform } } 0xFFFE 4 ∧
    (plain.cu1 = false ∧ plain.op64? = some true ∧ AlignedFor plain 0x10000 8 ∧ FindsNoDevice plain 0x10000 8) ∧
    (Sys2Proof.Machine.translate (underKseg plain none).cfg 0x2000 = .outsideBlock ∧
      Sys2Proof.Machine.translate (underKseg plain stub).cfg 0x2000 = .refill .tlb ∧
      Sys2Proof.Machine.translate (underKseg plain stub).cfg 0x6000 = .refill .xtlb) := by
  refine ⟨by decide +kernel, by decide +kernel, by decide +kernel, by decide +kernel, ?_, by decide +kernel,
    leavesWindow (w := ram) (off := 0xFFFE) (by decide +kernel) (by decide +kernel) (by decide +kernel),
    ⟨by decide +kernel, by decide +kernel, Or.inr (by decide +kernel), noDevice (by decide +kernel) (by decide +kernel)⟩,
    by decide +kernel⟩
  intro n h
  simp only [List.mem_cons, List.not_mem_nil, or_false] at h
  rcases h with rfl | rfl | rfl | rfl <;>
    exact ⟨Or.inr (by decide +kernel), noDevice (by decide +kernel) (by decide +kernel)⟩

/-- A store across the capacity, and a copy. -/
theorem witness_RamCapacityAndBulkCopy :
    plain.mem.wf = true ∧ (∀ n ∈ [0, 8], n ≤ 8) ∧ (0x8000 : Nat) ≤ 0x8000 ∧ (3 < 8 ∧ 0x7FFC + 3 < 0x8000) ∧
    (0x7FFB < 0x7FFC ∨ 0x7FFC + 8 ≤ 0x8004) ∧ 6 % 4 ≠ 0 ∧
    reads (bulkCopy 0x2000 0x2004 4 plain) (fun t => t.pc) = some 0x1000 ∧
    resolve plain.map (0xFFFC : Word).toNat = some (ram, 0xFFFC) ∧ 0xFFFC + 4 ≤ ram.length := by
  decide +kernel

theorem witness_ArithmeticFollowsTheSequence :
    let s := withF 0x3F800000 0 0x400
    let t := withF 0 0 0
    s.cu1 = true ∧ s.fr = false ∧ ViewExists s .dword 30 ∧ ¬ViewExists s .dword 31 ∧ ViewExists s .word 31 ∧
    (FloatFormat.single.div s.cfg.numerics false .nearest 0x3F800000 0 = .result 0x7F800000 0x08 ∧
      (0x08 : Signals) &&& enableField s.fcr31 ≠ 0 ∧ (0x08 : Signals) &&& enableField t.fcr31 = 0) ∧
    FloatFormat.single.add s.cfg.numerics false  .nearest false 0x7F800001 0 = .propagateNaN ∧
    FloatFormat.single.add { s.cfg.numerics with denormal := .unimplemented } false .nearest false 1 0 = .unimplemented := by
  unfold ViewExists
  decide +kernel

theorem witness_SignOperationsAndMoves :
    (withF 0xC0200000 0 0).cu1 = true ∧ FloatFormat.single.isNaN ((withF 0xC0200000 0 0).readView .word 2) = false ∧
    FloatFormat.single.isNaN ((withF 0x7F800001 0 0).readView .word 2) = true ∧
    FloatFormat.double.isNaN ((withF 0 0 0).readFD 2) = false ∧
    FloatFormat.double.isNaN ((withF 0x7FF0000000000001 0 0).readFD 2) = true ∧ ViewExists (withF 0 0 0) .dword 2 ∧
    ¬ViewExists (withF 0 0 0) .dword 3 := by
  unfold ViewExists
  decide +kernel

theorem witness_ConversionsFollowTheSequence :
    (withF 0x40200000 0 2).cu1 = true ∧ ViewExists (withF 0x40200000 0 2) .dword 2 ∧
    ¬ViewExists (withF 0x40200000 0 2) .dword 3 ∧ Rounding.ofField ((withF 0x40200000 0 2).fcr31.extractLsb' 0 2) = .up ∧
    FloatFormat.single.toInteger (withF 0 0 0).cfg.numerics 32 .up 0x40200000 = .result 3 0x01 := by
  unfold ViewExists
  decide +kernel

theorem witness_UntrappedFloatingPointCompletes :
    let s := withStatus plain 0x24000000
    ((withF 0 0 0).cu1 = true ∧ (withF 0 0 0).fr = false ∧ enableField (withF 0 0 0).fcr31 = 0 ∧
      ∀ i ∈ [Instr.addD 30 2 4, .cvtDS 30 2], (rtOf (encode i)).getLsbD 0 = false ∧ (rdOf (encode i)).getLsbD 0 = false ∧
        (saOf (encode i)).getLsbD 0 = false) ∧
    s.cu1 = true ∧ s.fr = true ∧ enableField s.fcr31 = 0 ∧ s.cfg.numerics.denormal = .gradual ∧
    ∀ i ∈ [Instr.addD 1 3 5, .cLeS 2 4, .cvtWD 1 3], opOf (encode i) = 17 ∧ 16 ≤ (rsOf (encode i)).toNat := by
  decide +kernel

theorem witness_InvalidOperationsAndDivisionByZero :
    FloatFormat.single.value 0x7F800000 = .inf false ∧ FloatFormat.single.value 0xFF800000 = .inf true ∧
    FloatFormat.single.value 0 = .finite false 0 (-149) ∧ FloatFormat.single.value 0x80000000 = .finite true 0 (-149) ∧
    FloatFormat.single.value 0xBF800000 = .finite true 0x800000 (-23) ∧ Numerics.default.denormal = .gradual ∧
    FloatFormat.single.isSignaling .msbSetSignals 0x7FC00000 = true ∧
    (FloatFormat.single.isNaN 0x7F800001 = true ∧ FloatFormat.single.isSignaling .msbSetSignals 0x7F800001 = false) ∧
    (FloatFormat.single.isNaN 0 = false ∧ FloatFormat.single.isSignaling .msbSetSignals 0 = false) := by
  decide +kernel

/-- A tie and no loss. -/
theorem witness_RoundingModes : roundShift .nearest false 3 1 = (2, true) ∧ roundShift .down true 8 2 = (2, false) := by
  decide +kernel

/-- The numbers that the clauses speak of, and operands of every operation with a sum, a difference, a product and a
quotient that are not zero; the results on both sides of each end of the range: a quotient that is inexact, an overflow, an
inexact tiny result. -/
theorem witness_InexactResultsAreRounded :
    let f := FloatFormat.single
    let nu := Numerics.default
    nu.denormal = .gradual ∧ f.rational 0x3F800000 = some 1 ∧ f.rational 0xC0400000 = some (-3) ∧
    ((1 : ℚ) + -3 ≠ 0 ∧ (1 : ℚ) - -3 ≠ 0 ∧ (1 : ℚ) * -3 ≠ 0 ∧ (1 : ℚ) / -3 ≠ 0 ∧ (0 : ℚ) < 1) ∧
    f.div nu false .nearest 0x3F800000 0x40400000 = .result 0x3EAAAAAB 0x01 ∧
    f.round nu false .nearest false 0x1FFFFFF 103 = .result 0x7F800000 0x05 ∧
    f.round nu false .zero false 0x1FFFFFF 103 = .result 0x7F7FFFFF 0x01 ∧
    f.round nu false .zero true 1 128 = .result 0xFF7FFFFF 0x05 ∧
    f.round nu false .up false 1 (-150) = .result 1 0x03 ∧ f.round nu false .down false 1 (-150) = .result 0 0x03 ∧
    (f.round nu false .nearest false 0x1FFFFFF (-151) = .result 0x00800000 0x01 ∧
      f.round { nu with tininess := .beforeRounding } false .nearest false 0x1FFFFFF (-151) =
        .result 0x00800000 0x03) := by
  decide +kernel

/-- The least and the largest number of format S; 1 + 2 = 3, 3 - 2 = 1, 2 · 1.5 = 3, 3 / 2 = 1.5, the root of 4 is 2; the
zeros of both signs, and results that are zero; infinities of like and of unlike signs. -/
theorem witness_ExactResultsAreDelivered :
    ((1 : Dword).toNat < 2 ^ (8 + 23 + 1) ∧ (0x7F7FFFFF : Dword).toNat < 2 ^ (8 + 23 + 1) ∧
      Numerics.default.denormal = .gradual ∧ FloatFormat.single.value 1 = .finite false 1 (-149) ∧
      FloatFormat.single.value 0x7F7FFFFF = .finite false 0xFFFFFF 104) ∧
    (let q := FloatFormat.single.rational
     q 0x3F800000 = some 1 ∧ q 0x40000000 = some 2 ∧ q 0x40400000 = some 3 ∧ q 0x3FC00000 = some (3 / 2) ∧
      q 0x40800000 = some 4 ∧ FloatFormat.double.rational 0x4008000000000000 = some 3 ∧
      (1 + 2 = (3 : ℚ) ∧ 3 - 2 = (1 : ℚ) ∧ 2 * (3 / 2) = (3 : ℚ) ∧ (2 : ℚ) ≠ 0 ∧ 3 / 2 = (3 / 2 : ℚ) ∧
        (4 : ℚ) = 2 * 2 ∧ (0 : ℚ) < 2 ∧ ((3 : Int) : ℚ) = 3) ∧
      q 0 = some 0 ∧ q 0x80000000 = some 0 ∧ q 0xBF800000 = some (-1) ∧ ((1 : ℚ) + -1 = 0 ∧ (1 : ℚ) - 1 = 0)) ∧
    (FloatFormat.single.signOf 0x80000000 = true ∧ FloatFormat.single.value 0x7F800000 = .inf false ∧
      FloatFormat.single.value 0xFF800000 = .inf true) := by
  decide +kernel

/-- Rounded values on both sides of both ends of the range. -/
theorem witness_ConversionToAnInteger :
    FloatFormat.double.value 0x7FF8000000000000 = .nan ∧ FloatFormat.double.value 0x7FF0000000000000 = .inf false ∧
    (FloatFormat.double.value 0x41DFFFFFFFC00000 = .finite false 0x1FFFFFFFC00000 (-22) ∧
      roundToQuantum .nearest false 0x1FFFFFFFC00000 (-22) 0 = (0x7FFFFFFF, false)) ∧
    (FloatFormat.double.value 0x41E0000000000000 = .finite false 0x10000000000000 (-21) ∧
      (2 ^ (32 - 1) - 1 : Int) < 0x80000000) ∧
    (FloatFormat.double.value 0xC1E0000000000000 = .finite true 0x10000000000000 (-21) ∧
      (-(2 ^ (32 - 1)) : Int) ≤ -0x80000000) := by
  decide +kernel

/-- A NaN with V enabled and not, ordered operands, and three numbers in order. -/
theorem witness_ComparesSetTheConditionFlag :
    (compareSignals (withF 0x7FC00000 0 0x800) FloatFormat.single 12 0x7FC00000 0 ∧
      (enableField (withF 0x7FC00000 0 0x800).fcr31).getLsbD 4 = true) ∧
    (enableField (withF 0x7FC00000 0 0).fcr31).getLsbD 4 = false ∧
    ¬compareSignals (withF 0 0 0) FloatFormat.single 2 0x7FC00000 0 ∧ (withF 0 0 0).cu1 = true ∧
    (FloatFormat.single.isNaN 0xFF800000 = false ∧ FloatFormat.single.isNaN 0x7F800000 = false ∧
      FloatFormat.single.isNaN 0x7FC00000 = true ∧ FloatFormat.single.less 0xFF800000 0x80000000 = true ∧
      FloatFormat.single.less 0 0x7F800000 = true) ∧
    (FloatFormat.single.rational 0xBF800000 = some (-1) ∧ FloatFormat.single.rational 0x3F800000 = some 1 ∧
      FloatFormat.single.value 0xFF800000 = .inf true ∧ FloatFormat.single.value 0x7F800000 = .inf false) ∧
    (ViewExists (withF 0 0 0) .dword 2 ∧ ¬ViewExists (withF 0 0 0) .dword 3) := by
  unfold compareSignals ViewExists
  decide +kernel

theorem witness_SystemCallsSyncAndCache : Cop0Usable plain ∧ Cop0Usable (withStatus plain 0x10000010) := by
  unfold Cop0Usable
  decide +kernel

/-- Operands that trap and operands that do not, at the boundaries of the signed and the unsigned order. -/
theorem witness_ConditionalTraps :
    let s := withT 0xFFFFFFFFFFFFFFFF 0
    (s.readReg 9).toInt < (s.readReg 10).toInt ∧ (s.readReg 10).toNat ≤ (s.readReg 9).toNat ∧
    ((0xFFFFFFFFFFFFFFFF : Nat) : Int) = (0xFFFF : Half).toInt % 2 ^ 64 ∧ ((5 : Nat) : Int) = (5 : Half).toInt % 2 ^ 64 := by
  decide +kernel


/-- R82, R484: an address that the stub maps, one whose store it answers with a TLB refill, and none supplied; R34: FCR0
reads zero above its low half. -/
theorem test_tlbStub_and_fcr0 :
    t0 (exec (.lw 8 0 0x4004) (underKseg plain stub)) = some 0x55667788 ∧
    raises (exec (.sb 8 0 0x7000) (underKseg plain stub)) = some (some (.tlbRefill true)) ∧
    stop (exec (.lb 8 0 0x4000) (underKseg plain none)) = some (.inr .translationOutsideBlock) ∧
    t0 (exec (.cfc1 8 0) (withF 0 0 0)) = some 0x0A00 := by
  decide +kernel

end Sys2Proof.Tests
end

section
/-! PROOF. What running a decoded word can leave, said once for every instruction (`Effect`, `exec_effect`,
`execDecoded_effect`): a statement about what no instruction, or only some, may change is then a case analysis over the
effects and not over the instructions. The first of them is about the state no instruction writes. -/

namespace Sys2Proof.Machine

/-- The opcodes of the stores: SB, SH, SW, SD, SWL, SWR, SDL, SDR, SC, SCD, SWC1 and SDC1 (R341). -/
def storeOpcodes : List Nat := [40, 41, 42, 43, 44, 45, 46, 56, 57, 60, 61, 63]

/-- Everything the next state of a decoded word can be. The premises say which instructions have an effect that is not
everyone's: memory, HI and LO, FCR31, coprocessor 0, LLbit, the snapshot. -/
inductive Effect (s : State) : Decoded → State → Prop
  /-- An exception is recorded and nothing else happens (R167). -/
  | raised {d : Decoded} (e : Exc) : Effect s d (s.recordException e)
  /-- A floating-point exception also leaves its causes in FCR31 (R392). -/
  | raisedFloatingPoint {d : Decoded} (c : BitVec 6) :
      Effect s d (State.recordException { s with fcr31 := withCause s.fcr31 c } .floatingPoint)
  /-- The `TlbStub` requests an XTLB refill (R484, log 15). -/
  | refillRequested {d : Decoded} {stub : TlbStub} (supplied : s.cfg.tlbStub = some stub) (store : Bool) :
      Effect s d (s.requestXtlb store)
  | completed {d : Decoded} : Effect s d s.advance
  | register {d : Decoded} {t : State} (drawn : t = s ∨ t = { s with draws := s.draws + 1 }) (r : Reg) (v : Dword) :
      Effect s d (t.writeReg r v).advance
  | hiLo {i : Instr} (hi lo : Dword)
      (writer : ∃ rs rt, i = .div rs rt ∨ i = .divu rs rt ∨ i = .ddiv rs rt ∨ i = .ddivu rs rt ∨ i = .mult rs rt ∨
        i = .multu rs rt ∨ i = .dmult rs rt ∨ i = .dmultu rs rt) : Effect s (.instr i) (s.writeHiLo hi lo).advance
  | hi (rs : Reg) (v : Dword) : Effect s (.instr (.mthi rs)) (State.advance { s with hi := v })
  | lo (rs : Reg) (v : Dword) : Effect s (.instr (.mtlo rs)) (State.advance { s with lo := v })
  | cop0 {d : Decoded} (usable : Cop0Usable s) (n : Reg) (v : Dword) : Effect s d (s.writeC0 n v).advance
  | fpBank {d : Decoded} {t : State} (drawn : t = s ∨ t = { s with draws := s.draws + 1 }) (bank : Vector Dword 32) :
      Effect s d (State.advance { t with fpr := bank })
  | fpControl (rt fs : Reg) (v : Word) : Effect s (.instr (.ctc1 rt fs)) (s.writeFCR fs v).advance
  /-- A floating-point operation writes its result, the cause and the flags of its signals (R392). -/
  | fpResult {d : Decoded} (x : Signals) (draws : Nat) (bank : Vector Dword 32) :
      Effect s d (State.advance
        { s with fcr31 := withFlags (withCause s.fcr31 (causeOfSignals x)) x, draws := draws, fpr := bank })
  | fpCompared {i : Instr} (x : Signals) (b : Bool)
      (compare : opOf (encode i) = 17 ∧ 16 ≤ (rsOf (encode i)).toNat ∧ 48 ≤ (functOf (encode i)).toNat) :
      Effect s (.instr i) (State.advance
        { s with fcr31 := withConditionFlag (withFlags (withCause s.fcr31 (causeOfSignals x)) x) b })
  | branched {d : Decoded} (outside : s.bu.branchDelayPending = false) (c likely link : Bool) (offset : Half) :
      Effect s d (s.branchEffect c likely link offset).toDelaySlot
  | jumped {d : Decoded} {t : State} (outside : s.bu.branchDelayPending = false)
      (linked : t = s ∨ ∃ rd, t = s.writeReg rd s.linkAddress) (target : Dword) :
      Effect s d (t.setBranch target true).toDelaySlot
  | stored {i : Instr} (store : (opOf (encode i)).toNat ∈ storeOpcodes) (m : Memory) (draws : Nat)
      (canonical : s.mem.wf = true → m.wf = true) :
      Effect s (.instr i) (State.advance { s with mem := m, draws := draws })
  /-- SC and SCD that store also write their success flag (R363). -/
  | storedConditionally {i : Instr} (store : (opOf (encode i)).toNat ∈ storeOpcodes) (m : Memory)
      (canonical : s.mem.wf = true → m.wf = true) (rt : Reg) :
      Effect s (.instr i) (State.writeReg { s with mem := m } rt 1).advance
  | linked {i : Instr} {t : State} (load : ∃ rt base offset, i = .ll rt base offset ∨ i = .lld rt base offset)
      (drawn : t = s ∨ t = { s with draws := s.draws + 1 }) (r : Reg) (v : Dword) (a : Word) :
      Effect s (.instr i) ((t.writeReg r v).setLink a).advance
  | returned (usable : Cop0Usable s) : Effect s (.instr .eret) s.returnFromException

/-! ## Every instruction has one of these effects -/

/-- The coprocessor-0 gate lets an instruction through only where coprocessor 0 is usable (R73, R166). -/
theorem Holds.gateCop0_of_usable {P : State → Prop} {s : State} {k : Answer} (h : Cop0Usable s → Holds P k)
    (r : P (s.recordException (.coprocessorUnusable 0))) : Holds P (Machine.gateCop0 s k) := by
  unfold Machine.gateCop0
  split
  · rename_i e
    exact h (.inl e)
  · split
    · rename_i e
      exact h (.inr e)
    · exact Holds.raise _ r
    · exact Holds.raise _ r
    · exact Holds.fault _

theorem Effect.accessRaises (s : State) (d : Decoded) (store : Bool) : AccessRaises (Effect s d) s store where
  bus := .raised _
  tlb _ _ := .raised _
  xtlb _ h := .refillRequested h _

theorem Effect.view {s t : State} {d : Decoded} (drawn : t = s ∨ t = { s with draws := s.draws + 1 }) (v : FpView)
    (i : Reg) (x : Dword) : Effect s d (t.writeView v i x).advance := by
  rw [writeView_eq]
  exact .fpBank drawn _

theorem Effect.viewResult (s : State) (d : Decoded) (x : Signals) (draws : Nat) (v : FpView) (i : Reg) (bits : Dword) :
    Effect s d ((State.writeView { s with fcr31 := withFlags (withCause s.fcr31 (causeOfSignals x)) x, draws := draws }
      v i bits).advance) := by
  rw [writeView_eq]
  exact .fpResult x draws _

section
variable {s : State}

theorem fpUnary_effect (d : Decoded) (src : FpView) (dst : FloatFormat) (v : FpView)
    (op : Numerics → Bool → Rounding → Dword → FpOut) (fd fs : Reg) :
    Holds (Effect s d) (fpUnary src dst v op fd fs s) :=
  Holds.fpUnary (fun x n _ => Effect.viewResult s d x n _ _ _) (fun c => .raisedFloatingPoint c) (.raised _)

theorem fpBinary_effect (d : Decoded) (f : FloatFormat) (op : Numerics → Bool → Rounding → Dword → Dword → FpOut)
    (fd fs ft : Reg) : Holds (Effect s d) (fpBinary f op fd fs ft s) :=
  Holds.fpBinary (fun x n _ => Effect.viewResult s d x n _ _ _) (fun c => .raisedFloatingPoint c) (.raised _)

theorem fpCompare_effect {i : Instr} (f : FloatFormat) (cond : BitVec 4) (fs ft : Reg)
    (compare : opOf (encode i) = 17 ∧ 16 ≤ (rsOf (encode i)).toNat ∧ 48 ≤ (functOf (encode i)).toNat) :
    Holds (Effect s (.instr i)) (fpCompare f cond fs ft s) :=
  Holds.fpCompare (fun x b => .fpCompared x b compare) (fun _ => .raisedFloatingPoint _) (.raised _)

theorem fpToInteger_effect (d : Decoded) (f : FloatFormat) (n : Nat) (rm : Option Rounding) (fd fs : Reg) :
    Holds (Effect s d) (fpToInteger f n rm fd fs s) := fpUnary_effect d _ _ _ _ _ _

theorem branch_effect (d : Decoded) (c likely link : Bool) (offset : Half) :
    Holds (Effect s d) (branch c likely link offset s) :=
  Holds.branch fun outside => .branched outside c likely link offset

theorem jump_effect (d : Decoded) (target : Dword) (link : Option Reg) : Holds (Effect s d) (jump target link s) :=
  Holds.jump fun outside _ linked => .jumped outside linked target

theorem writeReg_effect (d : Decoded) (r : Reg) (v : Dword) : Holds (Effect s d) (complete (s.writeReg r v)) :=
  Holds.complete (.register (.inl rfl) r v)

theorem trapWhen_effect (d : Decoded) (c : Bool) : Holds (Effect s d) (trapWhen c s) :=
  Holds.trapWhen .completed (.raised _)

theorem loadAligned_effect (d : Decoded) (n : Nat) (base : Reg) (offset : Half) {f : Dword → Dword → State → Answer}
    (h : ∀ va v t, (t = s ∨ t = { s with draws := s.draws + 1 }) → Holds (Effect s d) (f va v t)) :
    Holds (Effect s d) (loadAligned n base offset s f) :=
  Holds.loadAligned h (fun _ => .raised _) (Effect.accessRaises s d false)

theorem storeAligned_effect {i : Instr} (store : (opOf (encode i)).toNat ∈ storeOpcodes) (n : Nat) (v : Dword)
    (base : Reg) (offset : Half) : Holds (Effect s (.instr i)) (storeAligned n v base offset s) :=
  Holds.storeAligned (fun m canonical => .stored store m s.draws canonical) (fun _ => .raised _)
    (Effect.accessRaises s _ true)

theorem storeConditional_effect {i : Instr} (store : (opOf (encode i)).toNat ∈ storeOpcodes) (n : Nat) (v : Dword)
    (rt base : Reg) (offset : Half) : Holds (Effect s (.instr i)) (storeConditional n v rt base offset s) :=
  Holds.storeConditional (fun _ m canonical => .storedConditionally store m canonical rt)
    (fun _ => .register (.inl rfl) _ _) (fun _ => .raised _) (Effect.accessRaises s _ true)

theorem gate64_effect {d : Decoded} {k : Answer} (h : Holds (Effect s d) k) : Holds (Effect s d) (gate64 s k) :=
  Holds.gate64 h (.raised _)

theorem gateCop1_effect {d : Decoded} {k : Answer} (h : Holds (Effect s d) k) : Holds (Effect s d) (gateCop1 s k) :=
  Holds.gateCop1 h (.raised _)

end

/-- Every instruction has one of the effects, by families of the opcode table. -/
theorem exec_effect (i : Instr) (s : State) : Holds (Effect s (.instr i)) (exec i s) := by
  cases i <;> unfold exec  -- the arm's own meaning, which the lemma of its shape then matches
  case add | sub | addi => exact Holds.finish32Checked (.register (.inl rfl) _ _) (.raised _)
  case dadd | dsub | daddi => exact gate64_effect (Holds.finish64Checked (.register (.inl rfl) _ _) (.raised _))
  case addu | subu | addiu | sll | srl | sra | sllv | srlv | srav | and | or | xor | nor | andi | ori | xori | lui | mfhi
      | mflo => exact writeReg_effect _ _ _
  case daddu | dsubu | daddiu | dsll | dsrl | dsra | dsllv | dsrlv | dsrav | dsll32 | dsrl32 | dsra32 =>
    exact gate64_effect (writeReg_effect _ _ _)
  case slt | sltu | slti | sltiu => exact Holds.withOp64 fun _ _ => writeReg_effect _ _ _
  case div | divu | mult | multu => exact Holds.complete (.hiLo _ _ (by simp))
  case ddiv | ddivu | dmult | dmultu => exact gate64_effect (Holds.complete (.hiLo _ _ (by simp)))
  case mthi => exact Holds.complete (.hi _ _)
  case mtlo => exact Holds.complete (.lo _ _)
  case mfc0 => exact Holds.gateCop0 (Holds.complete (.register (readC0_state s _) _ _)) (.raised _)
  case dmfc0 => exact gate64_effect (Holds.gateCop0 (Holds.complete (.register (readC0_state s _) _ _)) (.raised _))
  case mtc0 => exact Holds.gateCop0_of_usable (fun u => Holds.complete (.cop0 u _ _)) (.raised _)
  case dmtc0 => exact gate64_effect (Holds.gateCop0_of_usable (fun u => Holds.complete (.cop0 u _ _)) (.raised _))
  case mfc1 => exact gateCop1_effect (writeReg_effect _ _ _)
  case mtc1 => exact gateCop1_effect (Holds.complete (.fpBank (.inl rfl) _))
  case dmfc1 => exact gate64_effect (gateCop1_effect (Holds.gateDouble (writeReg_effect _ _ _)))
  case dmtc1 => exact gate64_effect (gateCop1_effect (Holds.gateDouble (Holds.complete (.fpBank (.inl rfl) _))))
  case cfc1 => exact gateCop1_effect (Holds.complete (.register (readFCR_state s _) _ _))
  case ctc1 => exact gateCop1_effect (Holds.complete (.fpControl _ _ _))
  case beq | bne | blez | bgtz | bltz | bgez | bltzal | bgezal | beql | bnel | blezl | bgtzl | bltzl | bgezl | bltzall
      | bgezall => exact branch_effect _ _ _ _ _
  case bc1f | bc1t | bc1fl | bc1tl => exact gateCop1_effect (branch_effect _ _ _ _ _)
  case j | jal | jr | jalr => exact jump_effect _ _ _
  case lb | lbu | lh | lhu | lw =>
    exact loadAligned_effect _ _ _ _ fun _ _ _ drawn => Holds.complete (.register drawn _ _)
  case lwu | ld =>
    exact gate64_effect (loadAligned_effect _ _ _ _ fun _ _ _ drawn => Holds.complete (.register drawn _ _))
  case lwl | lwr => exact Holds.loadMergedWord (fun _ _ drawn => .register drawn _ _) (Effect.accessRaises s _ false)
  case ldl | ldr =>
    exact gate64_effect
      (Holds.loadMergedDword (fun _ _ drawn => .register drawn _ _) (Effect.accessRaises s _ false))
  case ll =>
    exact loadAligned_effect _ _ _ _ fun _ _ _ drawn =>
      Holds.complete (.linked ⟨_, _, _, .inl rfl⟩ drawn _ _ _)
  case lld =>
    exact gate64_effect (loadAligned_effect _ _ _ _ fun _ _ _ drawn =>
      Holds.complete (.linked ⟨_, _, _, .inr rfl⟩ drawn _ _ _))
  case lwc1 =>
    exact gateCop1_effect (loadAligned_effect _ _ _ _ fun _ _ _ drawn => Holds.complete (.fpBank drawn _))
  case ldc1 =>
    exact gateCop1_effect (loadAligned_effect _ _ _ _ fun _ _ _ drawn =>
      Holds.gateDouble (Holds.complete (.fpBank drawn _)))
  case sb | sh | sw => exact storeAligned_effect (by simp [encode, storeOpcodes]) _ _ _ _
  case sd => exact gate64_effect (storeAligned_effect (by simp [encode, storeOpcodes]) _ _ _ _)
  case swl | swr =>
    exact Holds.storeMergedWord (fun m n canonical => .stored (by simp [encode, storeOpcodes]) m n canonical)
      (Effect.accessRaises s _ true)
  case sdl | sdr =>
    exact gate64_effect
      (Holds.storeMergedDword (fun m n canonical => .stored (by simp [encode, storeOpcodes]) m n canonical)
        (Effect.accessRaises s _ true))
  case sc => exact storeConditional_effect (by simp [encode, storeOpcodes]) _ _ _ _ _
  case scd => exact gate64_effect (storeConditional_effect (by simp [encode, storeOpcodes]) _ _ _ _ _)
  case swc1 => exact gateCop1_effect (storeAligned_effect (by simp [encode, storeOpcodes]) _ _ _ _)
  case sdc1 =>
    exact gateCop1_effect (Holds.withAddress
      (fun _ => Holds.gateDouble (Holds.storeThen rfl
        (fun m canonical => Holds.complete (.stored (by simp [encode, storeOpcodes]) m s.draws canonical))
        (Effect.accessRaises s _ true)))
      (fun _ => .raised _))
  case addS | addD | subS | subD | mulS | mulD | divS | divD => exact fpBinary_effect _ _ _ _ _ _
  case sqrtS | sqrtD | absS | absD | negS | negD | cvtSD | cvtSW | cvtSL | cvtDS | cvtDW | cvtDL =>
    exact fpUnary_effect _ _ _ _ _ _ _
  case roundLS | roundLD | truncLS | truncLD | ceilLS | ceilLD | floorLS | floorLD | roundWS | roundWD | truncWS | truncWD
      | ceilWS | ceilWD | floorWS | floorWD | cvtWS | cvtWD | cvtLS | cvtLD => exact fpToInteger_effect _ _ _ _ _ _
  case movS | movD => exact Holds.fpMove (fun _ => Effect.view (.inl rfl) _ _ _) (.raised _)
  case cFS | cFD | cUnS | cUnD | cEqS | cEqD | cUeqS | cUeqD | cOltS | cOltD | cUltS | cUltD | cOleS | cOleD | cUleS
      | cUleD | cSfS | cSfD | cNgleS | cNgleD | cSeqS | cSeqD | cNglS | cNglD | cLtS | cLtD | cNgeS | cNgeD | cLeS | cLeD
      | cNgtS | cNgtD => exact fpCompare_effect _ _ _ _ (by simp [encode])
  case eret =>
    exact Holds.gateCop0_of_usable (fun u => Holds.outsideDelaySlot fun _ => Holds.next (.returned u)) (.raised _)
  case syscall | brk => exact Holds.raise _ (.raised _)
  case sync => exact Holds.complete .completed
  case cache => exact Holds.gateCop0 (Holds.complete .completed) (.raised _)
  case tlbr | tlbwi | tlbwr | tlbp => exact Holds.outsideBlockTlb (.raised _)
  case tge | tgeu | tlt | tltu | teq | tne | tgei | tgeiu | tlti | tltiu | teqi | tnei => exact trapWhen_effect _ _

/-- Every decoded word has one of the effects. -/
theorem execDecoded_effect (d : Decoded) (s : State) : Holds (Effect s d) (execDecoded d s) :=
  Holds.execDecoded (fun i e => e ▸ exec_effect i s) (.raised _) (.raised _) (.raisedFloatingPoint _) (.raised _)

/-! ## The state no instruction writes (R6, R40 to R43, R46) -/

/-- The injected word, the inputs, the address map, the launch parameters and Random. -/
def State.hidden (s : State) : Option Word × Inputs × List Window × Config × Word :=
  (s.inject, s.inputs, s.map, s.cfg, s.cop0.random)

/-- The pending requests of `t` are those of `s`, but for the synchronous exception, or but for the XTLB refill of a
supplied `TlbStub`. -/
def PendingKept (s t : State) : Prop :=
  t.pending = { s.pending with sync := t.pending.sync } ∨
    (∃ stub, s.cfg.tlbStub = some stub) ∧ ∃ store, t.pending = { s.pending with xtlb := true, xtlbStore := store }

/-- What running `d` in `s` keeps in `t`: the snapshot unless `d` is ERET, the hidden state, the pending requests. -/
structure KeepsHidden (s : State) (d : Decoded) (t : State) : Prop where
  snapshot : d ≠ .instr .eret → t.snapshot = s.snapshot
  hidden : t.hidden = s.hidden
  pending : PendingKept s t

section
variable {s t : State} {d : Decoded}

theorem KeepsHidden.of_eq (snapshot : t.snapshot = s.snapshot) (hidden : t.hidden = s.hidden)
    (pending : t.pending = s.pending) : KeepsHidden s d t := ⟨fun _ => snapshot, hidden, .inl (pending ▸ rfl)⟩

/-- Only a raise and a requested refill touch the pending requests, and only ERET the snapshot; everything else is built
from operations that name none of these fields. -/
theorem Effect.keepsHidden (h : Effect s d t) : KeepsHidden s d t := by
  cases h with
  | raised | raisedFloatingPoint => exact ⟨fun _ => rfl, rfl, .inl rfl⟩
  | refillRequested supplied store => exact ⟨fun _ => rfl, rfl, .inr ⟨⟨_, supplied⟩, store, rfl⟩⟩
  | returned => exact ⟨fun notEret => absurd rfl notEret, rfl, .inl rfl⟩
  | cop0 => exact .of_eq rfl (by simp [State.hidden]) rfl
  | register drawn | fpBank drawn | linked _ drawn => rcases drawn with rfl | rfl <;> exact .of_eq rfl rfl rfl
  | jumped _ linked => rcases linked with rfl | ⟨_, rfl⟩ <;> exact .of_eq rfl rfl rfl
  | branched => rw [branchEffect_eq]; exact .of_eq rfl rfl rfl
  | completed | hiLo | hi | lo | fpControl | fpResult | fpCompared | stored | storedConditionally =>
    exact .of_eq rfl rfl rfl

theorem PendingKept.without_stub (h : PendingKept s t) (noStub : s.cfg.tlbStub = none) :
    t.pending = { s.pending with sync := t.pending.sync } := by
  rcases h with h | ⟨⟨stub, supplied⟩, -⟩
  · exact h
  · simp [noStub] at supplied

theorem PendingKept.other_requests (h : PendingKept s t) : t.pending =
    { s.pending with sync := t.pending.sync, xtlb := t.pending.xtlb, xtlbStore := t.pending.xtlbStore } := by
  rcases h with h | ⟨-, store, h⟩ <;> rw [h]

theorem PendingKept.xtlb_stays (h : PendingKept s t) (requested : s.pending.xtlb = true) : t.pending.xtlb = true := by
  rcases h with h | ⟨-, store, h⟩
  · rw [h]; exact requested
  · rw [h]

end

end Sys2Proof.Machine

namespace Sys2Proof

open Machine

/-- Settles O26: every decoded word has one of the effects of `Effect`, and each of them keeps the hidden state. -/
theorem instructionsKeepTheHiddenState : Obligations.InstructionsKeepTheHiddenState := by
  intro d s t run
  obtain ⟨snapshot, hidden, pending⟩ := (execDecoded_effect d s t run).keepsHidden
  simp only [State.hidden, Prod.mk.injEq] at hidden
  obtain ⟨inject, inputs, map, cfg, random⟩ := hidden
  exact ⟨snapshot, inject, inputs, map, cfg, random, pending.without_stub, pending.other_requests, pending.xtlb_stays⟩

end Sys2Proof
end

section
/-! PROOF. The invariant of Safety.lean under every operation a Step is made of, and so under every Step; and after
reset. The operations that name none of its fields keep it by definition. -/

namespace Sys2Proof.Machine

/-! ## Reserved bits (R45 to R71) -/

/-- The reserved bits stay zero where only Status, Cause, and registers without reserved bits are written. -/
theorem Cop0.reservedZero_of_status_cause {c d : Cop0} (h : c.reservedZero = true)
    (kept : d = { c with
      status := d.status, cause := d.cause, count := d.count, epc := d.epc, errorEpc := d.errorEpc })
    (status : d.status &&& 0x00880000#32 = 0) (cause : d.cause &&& ~~~0xB000977C#32 = 0) :
    d.reservedZero = true := by
  rw [kept]
  simp only [Cop0.reservedZero, Bool.and_eq_true, decide_eq_true_eq] at h ⊢
  tauto

section
variable {s : State} (h : s.Inv)
include h

theorem State.Inv.status_reserved : s.cop0.status &&& 0x00880000#32 = 0 := by
  have reserved := h.reserved
  simp only [Cop0.reservedZero, Bool.and_eq_true, decide_eq_true_eq] at reserved
  tauto

theorem State.Inv.cause_reserved : s.cop0.cause &&& ~~~0xB000977C#32 = 0 := by
  have reserved := h.reserved
  simp only [Cop0.reservedZero, Bool.and_eq_true, decide_eq_true_eq] at reserved
  tauto

/-- A dispatch sets EXL or ERL, which are not reserved (R507). -/
theorem State.Inv.statusAfter_reserved (ev : Event) : s.statusAfter ev &&& 0x00880000#32 = 0 := by
  unfold State.statusAfter
  split <;> exact setBit_reserved h.status_reserved (by decide)

/-- A dispatch writes BD, ExcCode and CE of Cause, which are not reserved (R507). -/
theorem State.Inv.causeAfter_reserved (ev : Event) : s.causeAfter ev &&& ~~~0xB000977C#32 = 0 := by
  have withBd : (if s.recordsReturn ev then setBit s.cop0.cause 31 s.bu.branchDelayPending else s.cop0.cause) &&&
      ~~~0xB000977C#32 = 0 := by
    split
    · exact setBit_reserved h.cause_reserved (by decide)
    · exact h.cause_reserved
  unfold State.causeAfter
  dsimp only
  split
  · exact withBd
  · exact mergeMask_reserved withBd (by decide)

end

/-! ## What an instruction leaves -/

namespace State.Inv

variable {s t : State}

theorem advance (h : s.Inv) : s.advance.Inv := { h with branchUnit := BranchUnit.afterAdvance_legal h.branchUnit }

theorem recordException (h : s.Inv) (e : Exc) : (s.recordException e).Inv := { h with }

theorem requestXtlb {stub : TlbStub} (h : s.Inv) (supplied : s.cfg.tlbStub = some stub) (store : Bool) :
    (s.requestXtlb store).Inv := { h with noStub := fun none => by simp [supplied] at none }

/-- Drawing a free value is no part of the invariant. -/
theorem drawn (h : s.Inv) (drawn : t = s ∨ t = { s with draws := s.draws + 1 }) : t.Inv := by
  rcases drawn with rfl | rfl
  · exact h
  · exact { h with }

theorem writeReg (h : s.Inv) (r : Reg) (v : Dword) : (s.writeReg r v).Inv := { h with }

theorem setLink (h : s.Inv) (a : Word) : (s.setLink a).Inv := { h with }

theorem writeC0 (h : s.Inv) (n : Reg) (v : Dword) : (s.writeC0 n v).Inv :=
  { h with
    reserved := Cop0.write_reservedZero n v h.reserved
    config := Cop0.write_config n v h.config
    random := (Cop0.write_random _ _ _).trans h.random }

/-- CTC1 writes the fields of FCR31 and zero elsewhere (R35). -/
theorem writeFCR (h : s.Inv) (n : Reg) (v : Word) : (s.writeFCR n v).Inv :=
  { h with
    fcr31 := by
      rw [State.writeFCR_fcr31]
      split
      · rw [BitVec.and_assoc]; simp
      · exact h.fcr31 }

/-- A taken transfer makes the unit DelaySlotPending, where no slot waits to be nullified (R39, R170). -/
theorem setBranch (h : s.Inv) (slot : s.bu.nullifyNext = false) (target : Dword) (jump : Bool) :
    (s.setBranch target jump).toDelaySlot.Inv :=
  { h with branchUnit := by simp [slot, BranchUnit.legal] }

theorem branchEffect (h : s.Inv) (outside : s.bu.branchDelayPending = false) (slot : s.bu.nullifyNext = false)
    (c likely link : Bool) (offset : Half) : (s.branchEffect c likely link offset).toDelaySlot.Inv := by
  have legal := branchEffect_legal s c likely link offset h.branchUnit outside slot
  rw [branchEffect_eq] at *
  exact { h with branchUnit := legal }

theorem returnFromException (h : s.Inv) : s.returnFromException.Inv :=
  { h with
    branchUnit := BranchUnit.legal_of_legalSnapshot h.snapshot
    snapshot := BranchUnit.clear_legalSnapshot
    reserved := Cop0.reservedZero_of_status_cause h.reserved rfl
      (setBit_false_reserved h.status_reserved) h.cause_reserved }

end State.Inv

/-- Every effect of a decoded word keeps the invariant, where the slot it runs in is not to be nullified. -/
theorem Effect.keepsInv {s t : State} {d : Decoded} (e : Effect s d t) (h : s.Inv)
    (slot : s.bu.nullifyNext = false) : t.Inv := by
  cases e with
  | raised e => exact h.recordException e
  | raisedFloatingPoint c =>
    exact State.Inv.recordException (s := { s with fcr31 := withCause s.fcr31 c })
      { h with fcr31 := withCause_reserved h.fcr31 } _
  | refillRequested supplied store => exact h.requestXtlb supplied store
  | completed => exact h.advance
  | register drawn r v => exact ((h.drawn drawn).writeReg r v).advance
  | hiLo | hi | lo => exact { h.advance with }
  | cop0 _ n v => exact (h.writeC0 n v).advance
  | fpBank drawn => exact { (h.drawn drawn).advance with }
  | fpControl _ fs v => exact (h.writeFCR fs v).advance
  | fpResult => exact { h.advance with fcr31 := withFlags_reserved (withCause_reserved h.fcr31) }
  | fpCompared =>
    exact { h.advance with fcr31 := withConditionFlag_reserved (withFlags_reserved (withCause_reserved h.fcr31)) }
  | branched outside c likely link offset => exact h.branchEffect outside slot c likely link offset
  | jumped _ linked target =>
    rcases linked with rfl | ⟨rd, rfl⟩
    · exact h.setBranch slot target true
    · exact (h.writeReg rd _).setBranch slot target true
  | stored _ _ _ canonical | storedConditionally _ _ canonical =>
    exact { h.advance with memory := canonical h.memory }
  | linked _ drawn r v a => exact (((h.drawn drawn).writeReg r v).setLink a).advance
  | returned => exact h.returnFromException

/-! ## The tick and the Step -/

namespace State.Inv

variable {s : State}

/-- The timer sets IP[7], which is not reserved (R490). -/
theorem timer (h : s.Inv) : s.timer.Inv :=
  { h with
    reserved := Cop0.reservedZero_of_status_cause h.reserved rfl h.status_reserved (by
      unfold State.timer
      dsimp only
      split
      · exact setBit_reserved h.cause_reserved (by decide)
      · exact h.cause_reserved) }

/-- The inputs set or clear IP[2] and IP[4], which are not reserved (R491). -/
theorem sampleInputs (h : s.Inv) : s.sampleInputs.Inv :=
  { h with
    reserved := Cop0.reservedZero_of_status_cause h.reserved rfl h.status_reserved
      (setBit_reserved (setBit_reserved h.cause_reserved (by decide)) (by decide)) }

theorem takeException (h : s.Inv) (ev : Event) : (s.takeException ev).Inv :=
  { h with
    branchUnit := rfl
    snapshot := by
      rw [State.takeException_snapshot]
      split
      · exact BranchUnit.saved_legalSnapshot h.branchUnit
      · exact h.snapshot
    reserved := Cop0.reservedZero_of_status_cause h.reserved rfl (h.statusAfter_reserved ev)
      (h.causeAfter_reserved ev)
    noFaults := by
      cases ev with
      | cacheError => exact ⟨h.noFaults.1, rfl⟩
      | nmi | xtlbRefill | sync | interrupt => exact h.noFaults
    noStub := fun none => by
      cases ev with
      | xtlbRefill => rfl
      | nmi | cacheError | sync | interrupt => exact h.noStub none }

theorem tick (h : s.Inv) : s.tick.Inv := by
  rcases tick_cases s with e | ⟨ev, -, e⟩ <;> rw [e]
  · exact h.timer.sampleInputs
  · exact h.timer.sampleInputs.takeException ev

theorem skipSlot (h : s.Inv) (slot : s.bu.nullifyNext = true) : s.skipSlot.Inv :=
  { h with branchUnit := BranchUnit.skip_legal h.branchUnit slot }

end State.Inv

/-- Every Step keeps the invariant: the tick does, and then the slot is skipped, or a word runs that was injected or
fetched. -/
theorem step_keepsInv {s : State} (h : s.Inv) : Holds State.Inv (step s) := by
  have ht := h.tick
  refine Holds.step (fun slot => ht.skipSlot slot) (fun slot w _ => ?_) (fun slot _ => ?_)
  · exact (execDecoded_effect _ _).mono fun t e => e.keepsInv { ht with } slot
  · refine Holds.fetchThen (fun v t _ drawn => ?_) (ht.recordException _) (ht.recordException _)
      (fun _ _ => ht.recordException _) (fun stub supplied => ht.requestXtlb supplied false)
    have hslot : t.bu.nullifyNext = false := by rcases drawn with rfl | rfl <;> exact slot
    exact (execDecoded_effect _ _).mono fun u e => e.keepsInv (ht.drawn drawn) hslot

/-! ## Reset -/

theorem resetStatus_reserved (d : ResetDraw) : resetStatus d &&& 0x00880000#32 = 0 := by
  apply BitVec.eq_of_getLsbD_eq
  intro k hk
  interval_cases k <;> simp [resetStatus, resetStatusFixed]

theorem resetCause_reserved (d : ResetDraw) : d.cause &&& resetCauseFields &&& ~~~0xB000977C#32 = 0 := by
  rw [BitVec.and_assoc]
  simp [resetCauseFields]

theorem resetWith_inv (cfg : Config) (map : List Window) (d : ResetDraw) (wf : mapWf map = true) :
    (State.resetWith cfg map d).Inv where
  memory := rfl
  map := wf
  branchUnit := rfl
  snapshot := rfl
  reserved := Cop0.reservedZero_of_status_cause (c := { Cop0.reset cfg d with status := 0, cause := 0 })
    (by simp [Cop0.reset, Cop0.reservedZero]) rfl
    (resetStatus_reserved d) (resetCause_reserved d)
  fcr31 := BitVec.zero_and
  config := configRegister_fixed cfg
  random := rfl
  noFaults := ⟨rfl, rfl⟩
  noStub := fun _ => rfl

end Sys2Proof.Machine

namespace Sys2Proof

open Machine

/-- Settles O3: the tick and every effect of a decoded word keep the invariant. -/
theorem everyStepKeepsTheInvariant : Obligations.EveryStepKeepsTheInvariant := fun _ t h run => step_keepsInv h t run

/-- Settles O2: the reset state of a well-formed map meets the invariant, and the default map is well formed. -/
theorem resetMeetsTheInvariant : Obligations.ResetMeetsTheInvariant :=
  ⟨resetWith_inv _ _ _ (by decide +kernel), resetWith_inv⟩

end Sys2Proof
end

section
/-! PROOF. Who may change what: one case analysis over the effects of an instruction says of HI and LO, the condition
flag, LLbit, memory and coprocessor 0 that each is kept, or the instruction is one that writes it; another does so for
the general registers. -/

namespace Sys2Proof.Machine

variable {s t : State} {d : Decoded} {i : Instr}

/-! ## The instructions that write a part of the state of their own -/

/-- LL and LLD (R361, R362). -/
def IsLinkedLoad (i : Instr) : Prop := ∃ rt base offset, i = .ll rt base offset ∨ i = .lld rt base offset

/-- A multiply or divide; MTHI, which keeps LO; MTLO, which keeps HI (R25). -/
def WritesHiOrLo (s : State) (i : Instr) (t : State) : Prop :=
  (∃ rs rt, i = .div rs rt ∨ i = .divu rs rt ∨ i = .ddiv rs rt ∨ i = .ddivu rs rt ∨ i = .mult rs rt ∨
    i = .multu rs rt ∨ i = .dmult rs rt ∨ i = .dmultu rs rt) ∨
  (∃ rs, i = .mthi rs ∧ t.lo = s.lo) ∨ (∃ rs, i = .mtlo rs ∧ t.hi = s.hi)

/-- A compare, or CTC1 to register 31 (R36). -/
def WritesConditionFlag (i : Instr) : Prop :=
  (∃ rt, i = .ctc1 rt 31) ∨
  (opOf (encode i) = 17 ∧ 16 ≤ (rsOf (encode i)).toNat ∧ 48 ≤ (functOf (encode i)).toNat)

/-- What running `i` in `s` keeps in `t`, part by part, unless `i` is one of the instructions that write the part.
Coprocessor 0 is kept but for BadVAddr and, by a linked load, LLAddr, unless it is usable. -/
structure KeptUnlessWriter (s : State) (i : Instr) (t : State) : Prop where
  hiLo : (t.hi = s.hi ∧ t.lo = s.lo) ∨ WritesHiOrLo s i t
  conditionFlag : t.fcr31.getLsbD 23 = s.fcr31.getLsbD 23 ∨ WritesConditionFlag i
  llBit : t.llBit = s.llBit ∨ (t.llBit = true ∧ IsLinkedLoad i) ∨ (t.llBit = false ∧ i = .eret)
  mem : t.mem = s.mem ∨ (opOf (encode i)).toNat ∈ storeOpcodes
  cop0 : t.cop0 = { s.cop0 with badVAddr := t.cop0.badVAddr } ∨
    (IsLinkedLoad i ∧ t.cop0 = { s.cop0 with llAddr := t.cop0.llAddr }) ∨ Cop0Usable s

/-- The condition flag is outside Cause and Flags (R35, R36). -/
theorem conditionFlag_withCause (f : Word) (c : BitVec 6) : (withCause f c).getLsbD 23 = f.getLsbD 23 := by
  rw [withCause_getLsbD, if_neg (by omega)]

theorem conditionFlag_withFlags (f : Word) (x : Signals) : (withFlags f x).getLsbD 23 = f.getLsbD 23 := by
  rw [withFlags_getLsbD, if_neg (by omega)]

/-- CTC1 to a register other than 31 keeps FCR31 (R284). -/
theorem conditionFlag_writeFCR (s : State) (rt fs : Reg) (v : Word) :
    (s.writeFCR fs v).fcr31.getLsbD 23 = s.fcr31.getLsbD 23 ∨ WritesConditionFlag (.ctc1 rt fs) := by
  by_cases control : fs = 31#5
  · exact .inr (.inl ⟨rt, congrArg _ control⟩)
  · exact .inl (by rw [State.writeFCR_fcr31, if_neg control])

theorem Effect.keptUnlessWriter (h : Effect s (.instr i) t) : KeptUnlessWriter s i t := by
  cases h with
  | raised | refillRequested | completed => exact ⟨.inl ⟨rfl, rfl⟩, .inl rfl, .inl rfl, .inl rfl, .inl rfl⟩
  | register drawn | fpBank drawn =>
    rcases drawn with rfl | rfl <;> exact ⟨.inl ⟨rfl, rfl⟩, .inl rfl, .inl rfl, .inl rfl, .inl rfl⟩
  | branched =>
    rw [branchEffect_eq]
    exact ⟨.inl ⟨by split <;> rfl, by split <;> rfl⟩, .inl rfl, .inl rfl, .inl rfl, .inl rfl⟩
  | jumped _ linked =>
    rcases linked with rfl | ⟨_, rfl⟩ <;> exact ⟨.inl ⟨rfl, rfl⟩, .inl rfl, .inl rfl, .inl rfl, .inl rfl⟩
  | raisedFloatingPoint =>
    exact ⟨.inl ⟨rfl, rfl⟩, .inl (conditionFlag_withCause _ _), .inl rfl, .inl rfl, .inl rfl⟩
  | fpResult =>
    exact ⟨.inl ⟨rfl, rfl⟩, .inl ((conditionFlag_withFlags _ _).trans (conditionFlag_withCause _ _)), .inl rfl,
      .inl rfl, .inl rfl⟩
  | fpCompared _ _ compare => exact ⟨.inl ⟨rfl, rfl⟩, .inr (.inr compare), .inl rfl, .inl rfl, .inl rfl⟩
  | fpControl rt fs v => exact ⟨.inl ⟨rfl, rfl⟩, conditionFlag_writeFCR s rt fs v, .inl rfl, .inl rfl, .inl rfl⟩
  | hiLo _ _ writer => exact ⟨.inr (.inl writer), .inl rfl, .inl rfl, .inl rfl, .inl rfl⟩
  | hi rs => exact ⟨.inr (.inr (.inl ⟨rs, rfl, rfl⟩)), .inl rfl, .inl rfl, .inl rfl, .inl rfl⟩
  | lo rs => exact ⟨.inr (.inr (.inr ⟨rs, rfl, rfl⟩)), .inl rfl, .inl rfl, .inl rfl, .inl rfl⟩
  | stored store | storedConditionally store =>
    exact ⟨.inl ⟨rfl, rfl⟩, .inl rfl, .inl rfl, .inr store, .inl rfl⟩
  | linked load drawn =>
    rcases drawn with rfl | rfl <;>
      exact ⟨.inl ⟨rfl, rfl⟩, .inl rfl, .inr (.inl ⟨rfl, load⟩), .inl rfl, .inr (.inl ⟨load, rfl⟩)⟩
  | cop0 usable => exact ⟨.inl ⟨rfl, rfl⟩, .inl rfl, .inl rfl, .inl rfl, .inr (.inr usable)⟩
  | returned usable =>
    exact ⟨.inl ⟨rfl, rfl⟩, .inl rfl, .inr (.inr ⟨rfl, rfl⟩), .inl rfl, .inr (.inr usable)⟩

/-- The mode is a function of Status. -/
theorem mode?_of_status (h : t.cop0.status = s.cop0.status) : t.mode? = s.mode? := by
  unfold State.mode? State.exl State.erl State.ksu
  rw [h]

/-! ## The bulk copy keeps LLbit (R110) -/

theorem copyGranule_llBit (src dst : Word) : Holds (fun t => t.llBit = s.llBit) (copyGranule s src dst) := by
  unfold copyGranule
  split
  · rename_i v u read
    have kept : u.llBit = s.llBit := by rcases routerRead_some read with rfl | rfl <;> rfl
    split
    · rename_i w write
      obtain ⟨_, _, _, _, rfl⟩ := routerWrite_some write
      exact Holds.next kept
    · exact Holds.refused _
  · exact Holds.refused _

theorem copyGranules_llBit (n : Nat) (src dst : Word) (s : State) :
    Holds (fun t => t.llBit = s.llBit) (copyGranules n src dst s) := by
  induction n generalizing src dst s with
  | zero => exact Holds.next rfl
  | succ n ih =>
    unfold copyGranules
    split
    · rename_i u copied
      exact (ih _ _ u).mono fun t kept => kept.trans (copyGranule_llBit src dst u copied)
    · exact Holds.fault _
    · exact Holds.refused _

theorem bulkCopy_llBit (src dst : Word) (n : Nat) (s : State) :
    Holds (fun t => t.llBit = s.llBit) (bulkCopy src dst n s) := by
  unfold bulkCopy
  split
  · exact copyGranules_llBit _ _ _ s
  · exact Holds.refused _

/-! ## Memory and the general registers (R21, R24, R341) -/

/-- The byte at an address is a function of memory, the address map and the launch parameters. -/
theorem byteAt_of_eq (mem : t.mem = s.mem) (map : t.map = s.map) (cfg : t.cfg = s.cfg) (a : Word) :
    t.byteAt a = s.byteAt a := by
  simp only [State.byteAt, mem, map, cfg]

/-- At most register `r` reads otherwise in `t` than in `s`. -/
def OnlyRegister (s t : State) (r : Reg) : Prop := ∀ q, q ≠ r → t.readReg q = s.readReg q

theorem onlyRegister_writeReg (s : State) (r : Reg) (v : Dword) : OnlyRegister s (s.writeReg r v) r := fun q hq => by
  rw [State.readReg_writeReg, if_neg fun h => hq h.1]

theorem onlyRegister_of_gpr (r : Reg) (h : t.gpr = s.gpr) : OnlyRegister s t r := fun q _ => by
  simp only [State.readReg, h]

theorem Effect.onlyRegister (h : Effect s d t) : ∃ r, OnlyRegister s t r := by
  cases h with
  | register drawn r v | linked _ drawn r v =>
    rcases drawn with rfl | rfl <;> exact ⟨r, onlyRegister_writeReg _ r v⟩
  | storedConditionally _ m _ rt => exact ⟨rt, onlyRegister_writeReg { s with mem := m } rt 1⟩
  | jumped _ linked =>
    rcases linked with rfl | ⟨rd, rfl⟩
    · exact ⟨0, onlyRegister_of_gpr 0 rfl⟩
    · exact ⟨rd, onlyRegister_writeReg _ rd _⟩
  | branched _ _ _ link =>
    rw [branchEffect_eq]
    cases link
    · exact ⟨0, onlyRegister_of_gpr 0 rfl⟩
    · exact ⟨31, onlyRegister_writeReg s 31 _⟩
  | fpBank drawn => rcases drawn with rfl | rfl <;> exact ⟨0, onlyRegister_of_gpr 0 rfl⟩
  | raised | raisedFloatingPoint | refillRequested | completed | hiLo | hi | lo | cop0 | fpControl | fpResult
  | fpCompared | stored | returned => exact ⟨0, onlyRegister_of_gpr 0 rfl⟩

end Sys2Proof.Machine

namespace Sys2Proof

open Machine

/-- Settles O23: outside kernel mode with CU0 = 0 coprocessor 0 is not usable, so it is kept but for what an address
error and a linked load write. -/
theorem userModeCannotChangeCoprocessor0 : Obligations.UserModeCannotChangeCoprocessor0 := by
  intro i s t mode cu0 run
  have unusable : ¬Cop0Usable s := by
    rintro (usable | kernel)
    · simp [cu0] at usable
    · rcases mode with mode | mode <;> simp [kernel] at mode
  rcases (exec_effect i s t run).keptUnlessWriter.cop0 with kept | ⟨load, kept⟩ | usable
  · have llAddr : t.cop0.llAddr = s.cop0.llAddr := by rw [kept]
    refine ⟨?_, mode?_of_status (by rw [kept]), fun changed => absurd llAddr changed⟩
    rw [llAddr]
    exact kept
  · have badVAddr : t.cop0.badVAddr = s.cop0.badVAddr := by rw [kept]
    refine ⟨?_, mode?_of_status (by rw [kept]), fun _ => ?_⟩
    · rw [badVAddr]
      exact kept
    · obtain ⟨rt, base, offset, ll | lld⟩ := load
      · exact .inl ⟨rt, base, offset, ll⟩
      · exact .inr ⟨rt, base, offset, lld⟩
  · exact absurd usable unusable

/-- Settles O24: HI, LO and the condition flag are kept, or the instruction is one that writes them. -/
theorem onlyTheirInstructionsWriteHiLoAndTheConditionFlag :
    Obligations.OnlyTheirInstructionsWriteHiLoAndTheConditionFlag := by
  refine ⟨fun i s t run changed => ?_, fun i s t run changed => ?_⟩
  · exact (exec_effect i s t run).keptUnlessWriter.hiLo.resolve_left fun ⟨hi, lo⟩ =>
      changed.elim (absurd hi) (absurd lo)
  · exact (exec_effect i s t run).keptUnlessWriter.conditionFlag.resolve_left changed

/-- Settles O25: LLbit is kept, or the instruction is one that writes it; neither an exception nor a tick nor a granule
of the bulk copy does. -/
theorem onlyLinkedLoadsAndEretChangeTheLinkBit : Obligations.OnlyLinkedLoadsAndEretChangeTheLinkBit :=
  ⟨fun i s t run changed => (exec_effect i s t run).keptUnlessWriter.llBit.resolve_left changed,
    State.takeException_llBit, tick_llBit, fun src dst n s t run => bulkCopy_llBit src dst n s t run⟩

/-- Settles O27: memory is kept, or the instruction is a store, and every effect writes one general register at most. -/
theorem onlyStoresChangeMemoryAndOneRegisterAtMost : Obligations.OnlyStoresChangeMemoryAndOneRegisterAtMost := by
  refine ⟨fun i s t run other => ?_, fun d s t run => ⟨rfl, (execDecoded_effect d s t run).onlyRegister⟩⟩
  have effect := exec_effect i s t run
  have mem := effect.keptUnlessWriter.mem.resolve_right other
  have hidden := effect.keepsHidden.hidden
  simp only [State.hidden, Prod.mk.injEq] at hidden
  obtain ⟨-, -, map, cfg, -⟩ := hidden
  exact ⟨mem, byteAt_of_eq mem map cfg⟩

end Sys2Proof
end

section
/-! PROOF. The register transfers: how an instruction completes where its gates let it through, what a read of each
control register gives, and what a write of each leaves. -/

namespace Sys2Proof.Machine

variable {s u : State} {i : Instr} {k : Answer}

/-! ## Gates that let an instruction through (R32, R165, R166) -/

theorem gate64_of_wide (wide : s.op64? = some true) : gate64 s k = k := by
  unfold gate64 withOp64
  rw [wide]
  rfl

theorem gateCop0_of_usable (usable : Cop0Usable s) : gateCop0 s k = k := by
  unfold gateCop0
  rcases usable with cu0 | kernel
  · rw [if_pos cu0]
  · rw [kernel]
    exact ite_self k

theorem gateCop1_of_cu1 (cu1 : s.cu1 = true) : gateCop1 s k = k := if_pos cu1

theorem doubleOk_of_view {r : Reg} (view : s.fr = true ∨ r.getLsbD 0 = false) : s.doubleOk r = true := by
  unfold State.doubleOk
  rcases view with fr | even
  · rw [fr, Bool.true_or]
  · rw [even, Bool.not_false, Bool.or_true]

theorem gateDouble_of_view {r : Reg} (view : s.fr = true ∨ r.getLsbD 0 = false) : gateDouble s r k = k :=
  if_pos (doubleOk_of_view view)

theorem gateDouble_of_odd {r : Reg} (fr : s.fr = false) (odd : r.getLsbD 0 = true) :
    gateDouble s r k = .fault .oddDoubleRegister :=
  if_neg (by simp only [State.doubleOk, fr, odd]; decide)

/-! ## Completing (R168) -/

theorem advanced_advance (pc : u.pc = s.pc) (bu : u.bu = s.bu) : Advanced s u.advance := by
  constructor <;> intro pending <;> simp [BranchUnit.afterAdvance, pc, bu, pending]

theorem gprWritten_writeReg (s : State) (r : Reg) (v : Dword) : GprWritten s (s.writeReg r v) r v := fun q => by
  rw [State.readReg_writeReg]
  exact if_congr (and_congr_right fun h => by rw [h]; rfl) rfl rfl

theorem writesGpr_of_complete {r : Reg} {v : Dword} {p : Dword → Prop} (run : exec i s = complete (s.writeReg r v))
    (value : p v) : WritesGpr i s r p :=
  ⟨_, v, run, advanced_advance rfl rfl, value, gprWritten_writeReg s r v, rfl⟩

theorem writesDrawnGpr_of_complete {r : Reg} {v : Dword} {p : Dword → Prop}
    (run : exec i s = complete (s.draw.2.writeReg r v)) (value : p v) : WritesDrawnGpr i s r p :=
  ⟨_, v, run, advanced_advance rfl rfl, value, gprWritten_writeReg s.draw.2 r v, rfl⟩

theorem onlyAdvances_of_complete (run : exec i s = complete s) : OnlyAdvances i s :=
  ⟨_, run, advanced_advance rfl rfl, rfl⟩

/-! ## Reading coprocessor 0 (R275, R277, R291) -/

theorem exec_mfc0 (rt n : Reg) (usable : Cop0Usable s) :
    exec (.mfc0 rt n) s = complete ((s.readC0 n).2.writeReg rt (sext64 (trunc32 (s.readC0 n).1))) :=
  gateCop0_of_usable usable

theorem exec_dmfc0 (rt n : Reg) (usable : Cop0Usable s) (wide : s.op64? = some true) :
    exec (.dmfc0 rt n) s = complete ((s.readC0 n).2.writeReg rt (s.readC0 n).1) :=
  (gate64_of_wide wide).trans (gateCop0_of_usable usable)

/-- Where a read of register `n` leaves the machine as it is, MFC0 and DMFC0 move what it gives. -/
theorem moves_of_readC0 (rt : Reg) {n : Reg} {v : Dword} (usable : Cop0Usable s) (read : s.readC0 n = (v, s)) :
    WritesGpr (.mfc0 rt n) s rt (fun x => x = sext64 (trunc32 v)) ∧
    (s.op64? = some true → WritesGpr (.dmfc0 rt n) s rt (fun x => x = v)) := by
  refine ⟨writesGpr_of_complete ?_ rfl, fun wide => writesGpr_of_complete ?_ rfl⟩
  · rw [exec_mfc0 rt n usable, read]
  · rw [exec_dmfc0 rt n usable wide, read]

/-- Where a read of register `n` draws a free value, MFC0 and DMFC0 move what it gives and draw one too. -/
theorem movesDrawn_of_readC0 (rt : Reg) {n : Reg} {v : Dword} {p : Dword → Prop} (usable : Cop0Usable s)
    (read : s.readC0 n = (v, s.draw.2)) (low : p (sext64 (trunc32 v))) (all : p v) :
    WritesDrawnGpr (.mfc0 rt n) s rt p ∧ (s.op64? = some true → WritesDrawnGpr (.dmfc0 rt n) s rt p) := by
  refine ⟨writesDrawnGpr_of_complete ?_ low, fun wide => writesDrawnGpr_of_complete ?_ all⟩
  · rw [exec_mfc0 rt n usable, read]
  · rw [exec_dmfc0 rt n usable wide, read]

/-- What a read of Random can give (R46): six bits, and between Wired and 31 where Wired allows it. -/
theorem randomFrom_bounds (wired : Word) (free : Dword) :
    (randomFrom wired free).toNat < 64 ∧ (wired.toNat % 64 ≤ 31 →
      wired.toNat % 64 ≤ (randomFrom wired free).toNat ∧ (randomFrom wired free).toNat ≤ 31) := by
  have low : (wired &&& 0x3F#32).toNat = wired.toNat % 64 := by
    rw [BitVec.toNat_and]
    exact Nat.and_two_pow_sub_one_eq_mod _ 6
  have six : (free &&& 0x3F#64).toNat = free.toNat % 64 := by
    rw [BitVec.toNat_and]
    exact Nat.and_two_pow_sub_one_eq_mod _ 6
  unfold randomFrom
  dsimp only
  rw [low]
  split
  · rename_i inRange
    have offset := Nat.mod_lt free.toNat (show 0 < 32 - wired.toNat % 64 by omega)
    rw [BitVec.toNat_ofNat, Nat.mod_eq_of_lt (by omega)]
    omega
  · rw [six]
    omega

/-- A value of six bits is its low word, sign-extended. -/
theorem sext64_trunc32_of_lt {x : Dword} (small : x.toNat < 64) : sext64 (trunc32 x) = x := by
  apply BitVec.eq_of_toInt_eq
  rw [BitVec.toInt_signExtend_of_le (by decide), BitVec.toInt_setWidth, BitVec.toInt_eq_toNat_of_lt (by omega)]
  exact Int.bmod_eq_of_le (by omega) (by omega)

/-! ## Writing coprocessor 0 (R276, R278, R285 to R290) -/

/-- A 32-bit register read after a masked write, as it reads with its mask sign-extended. -/
theorem sext64_mergeMask (old w mask : Word) :
    sext64 (mergeMask old w mask) = (sext64 old &&& ~~~(sext64 mask)) ||| (sext64 w &&& sext64 mask) := by
  simp [mergeMask, sext64, BitVec.signExtend_or, BitVec.signExtend_and, BitVec.signExtend_not]

/-- A register without a mask, written as one whose mask has every bit. -/
theorem eq_merge_allOnes (old v : Dword) :
    v = (old &&& ~~~0xFFFFFFFFFFFFFFFF#64) ||| (v &&& 0xFFFFFFFFFFFFFFFF#64) := by
  rw [show 0xFFFFFFFFFFFFFFFF#64 = BitVec.allOnes 64 from rfl, BitVec.and_allOnes]
  simp

/-- The written register takes the bits of its mask and keeps the others (R285). -/
theorem readC0_writeC0_self {n : Reg} {wide : Bool} {mask : Dword} (v : Dword)
    (writable : (n, wide, mask) ∈ writableC0) :
    ((s.writeC0 n v).readC0 n).1 =
      ((s.readC0 n).1 &&& ~~~mask) ||| ((if wide then v else sext64 (trunc32 v)) &&& mask) := by
  simp only [writableC0, List.mem_cons, Prod.mk.injEq, List.not_mem_nil, or_false] at writable
  rcases writable with ⟨rfl, rfl, rfl⟩ | ⟨rfl, rfl, rfl⟩ | ⟨rfl, rfl, rfl⟩ | ⟨rfl, rfl, rfl⟩ | ⟨rfl, rfl, rfl⟩ |
    ⟨rfl, rfl, rfl⟩ | ⟨rfl, rfl, rfl⟩ | ⟨rfl, rfl, rfl⟩ | ⟨rfl, rfl, rfl⟩ | ⟨rfl, rfl, rfl⟩ | ⟨rfl, rfl, rfl⟩ |
    ⟨rfl, rfl, rfl⟩ | ⟨rfl, rfl, rfl⟩ | ⟨rfl, rfl, rfl⟩ | ⟨rfl, rfl, rfl⟩ | ⟨rfl, rfl, rfl⟩ | ⟨rfl, rfl, rfl⟩ |
    ⟨rfl, rfl, rfl⟩ | ⟨rfl, rfl, rfl⟩ | ⟨rfl, rfl, rfl⟩
  · exact sext64_mergeMask _ _ _  -- Index
  · rfl                           -- EntryLo0
  · rfl                           -- EntryLo1
  · rfl                           -- Context
  · exact sext64_mergeMask _ _ _  -- PageMask
  · exact sext64_mergeMask _ _ _  -- Wired
  · exact eq_merge_allOnes _ _    -- Count
  · rfl                           -- EntryHi
  · exact eq_merge_allOnes _ _    -- Compare
  · exact sext64_mergeMask _ _ _  -- Status
  · exact sext64_mergeMask _ _ _  -- Cause
  · exact eq_merge_allOnes _ _    -- EPC
  · exact sext64_mergeMask _ _ _  -- Config
  · exact eq_merge_allOnes _ _    -- LLAddr
  · exact sext64_mergeMask _ _ _  -- WatchLo
  · exact sext64_mergeMask _ _ _  -- WatchHi
  · rfl                           -- XContext
  · exact sext64_mergeMask _ _ _  -- PErr
  · exact sext64_mergeMask _ _ _  -- TagLo
  · exact eq_merge_allOnes _ _    -- ErrorEPC

/-- `C0Write`, register by register: which number writes it, and under which mask (R45 to R71, R285, R287). -/
theorem Cop0.write_eq (c : Cop0) (n : Reg) (v : Dword) : c.write n v =
    { c with
      index := if n = 0 then mergeMask c.index (trunc32 v) 0x8000003F#32 else c.index
      entryLo0 := if n = 2 then mergeMask c.entryLo0 v 0x0000000003FFFFFF#64 else c.entryLo0
      entryLo1 := if n = 3 then mergeMask c.entryLo1 v 0x0000000003FFFFFF#64 else c.entryLo1
      context := if n = 4 then mergeMask c.context v 0xFFFFFFFFFF800000#64 else c.context
      pageMask := if n = 5 then mergeMask c.pageMask (trunc32 v) 0x01FFE000#32 else c.pageMask
      wired := if n = 6 then mergeMask c.wired (trunc32 v) 0x0000003F#32 else c.wired
      count := if n = 9 then trunc32 v else c.count
      entryHi := if n = 10 then mergeMask c.entryHi v 0xC00000FFFFFFE0FF#64 else c.entryHi
      compare := if n = 11 then trunc32 v else c.compare
      status := if n = 12 then mergeMask c.status (trunc32 v) 0xFF77FFFF#32 else c.status
      cause := if n = 11 then setBit c.cause 15 false
        else if n = 13 then mergeMask c.cause (trunc32 v) 0x00000300#32 else c.cause
      epc := if n = 14 then v else c.epc
      config := if n = 16 then mergeMask c.config (trunc32 v) 0x0F00000F#32 else c.config
      llAddr := if n = 17 then trunc32 v else c.llAddr
      watchLo := if n = 18 then mergeMask c.watchLo (trunc32 v) 0xFFFFFFFB#32 else c.watchLo
      watchHi := if n = 19 then mergeMask c.watchHi (trunc32 v) 0x0000000F#32 else c.watchHi
      xContext := if n = 20 then mergeMask c.xContext v 0xFFFFFFFE00000000#64 else c.xContext
      pErr := if n = 26 then mergeMask c.pErr (trunc32 v) 0x000000FF#32 else c.pErr
      tagLo := if n = 28 then mergeMask c.tagLo (trunc32 v) 0x0FFFFFC0#32 else c.tagLo
      errorEpc := if n = 30 then v else c.errorEpc } := by
  unfold Cop0.write
  split <;> simp_all

/-- Every other named register reads as before, Cause excepted where Compare is written (R285, R287). -/
theorem readC0_writeC0_of_ne (n : Reg) (v : Dword) :
    ∀ q ∈ namedC0, q ≠ n → ¬(n = 11 ∧ q = 13) → ((s.writeC0 n v).readC0 q).1 = (s.readC0 q).1 := by
  intro q named other notTimer
  rw [ne_comm] at other
  simp only [namedC0, List.mem_cons, List.not_mem_nil, or_false] at named
  rcases named with rfl | rfl | rfl | rfl | rfl | rfl | rfl | rfl | rfl | rfl | rfl | rfl | rfl | rfl | rfl | rfl |
    rfl | rfl | rfl | rfl | rfl | rfl | rfl | rfl
  all_goals simp_all [State.readC0, State.writeC0, Cop0.write_eq]

/-- The read-only and the unnamed numbers change nothing (R289, R67). -/
theorem Cop0.write_of_not_writable (c : Cop0) {n : Reg} (v : Dword)
    (readOnly : ∀ wide mask, (n, wide, mask) ∉ writableC0) : c.write n v = c := by
  revert readOnly
  unfold Cop0.write
  split <;> simp [writableC0]

/-- A write to Compare clears IP[7] of Cause (R287). -/
theorem readC0_cause_writeC0_compare (v : Dword) :
    ((s.writeC0 11 v).readC0 13).1 = (s.readC0 13).1 &&& ~~~0x8000#64 := by
  change sext64 (s.cop0.cause &&& ~~~BitVec.twoPow 32 15) = sext64 s.cop0.cause &&& ~~~0x8000#64
  rw [sext64, BitVec.signExtend_and]
  rfl

theorem readC0_advance (n : Reg) : (s.advance.readC0 n).1 = (s.readC0 n).1 := by
  unfold State.readC0
  split <;> rfl

theorem c0Written_writeC0 (s : State) (n : Reg) (v : Dword) : C0Written s (s.writeC0 n v).advance n v := by
  refine ⟨fun wide mask writable => ?_, fun q named other notTimer => ?_, fun readOnly => ?_, ?_, ?_⟩
  · rw [readC0_advance]
    exact readC0_writeC0_self v writable
  · rw [readC0_advance]
    exact readC0_writeC0_of_ne n v q named other notTimer
  · exact Cop0.write_of_not_writable s.cop0 v readOnly
  · rintro rfl
    rw [readC0_advance]
    exact readC0_cause_writeC0_compare v
  · exact Cop0.write_random _ _ _

theorem writesC0_of_complete {n : Reg} {v : Dword} (run : exec i s = complete (s.writeC0 n v)) : WritesC0 i s n v :=
  ⟨_, run, advanced_advance rfl rfl, c0Written_writeC0 s n v, rfl⟩

/-! ## Coprocessor 1 (R279 to R284) -/

theorem readFCR_unnamed {n : Reg} (low : 1 ≤ n.toNat) (high : n.toNat ≤ 30) : s.readFCR n = s.draw := by
  unfold State.readFCR
  rw [if_neg (by rintro rfl; simp at low), if_neg (by rintro rfl; simp at high)]

theorem writeFCR_other {n : Reg} (v : Word) (other : n ≠ 31) : s.writeFCR n v = s := by
  unfold State.writeFCR
  rw [if_neg (show n ≠ 31#5 from other)]

end Sys2Proof.Machine

namespace Sys2Proof

open Machine

/-- Settles O34: the read of each number, moved by MFC0 and DMFC0. -/
theorem coprocessor0Reads : Obligations.Coprocessor0Reads := by
  intro s rt n usable
  refine ⟨fun v named => moves_of_readC0 rt usable ?_, ?_, fun unnamed => ?_⟩
  · simp only [List.mem_cons, Prod.mk.injEq, List.not_mem_nil] at named
    iterate 24
      obtain ⟨rfl, rfl⟩ | named := named
      · rfl
    exact named.elim
  · rintro rfl
    have bounds := randomFrom_bounds s.cop0.wired s.draw.1
    exact movesDrawn_of_readC0 rt usable rfl (by rw [sext64_trunc32_of_lt bounds.1]; exact bounds) bounds
  · have read : s.readC0 n = s.draw := by
      unfold State.readC0
      split <;> simp at unnamed ⊢
    exact movesDrawn_of_readC0 rt usable read trivial trivial

/-- Settles O35: MTC0 and DMTC0 complete with the register written, and a write touches its own register alone. -/
theorem coprocessor0Writes : Obligations.Coprocessor0Writes := fun _ _ _ usable =>
  ⟨writesC0_of_complete (gateCop0_of_usable usable),
    fun wide => writesC0_of_complete ((gate64_of_wide wide).trans (gateCop0_of_usable usable))⟩

/-- Settles O37: each transfer past its gates. -/
theorem coprocessor1Transfers : Obligations.Coprocessor1Transfers := by
  intro s rt fs cu1
  have cfc1 : exec (.cfc1 rt fs) s = complete ((s.readFCR fs).2.writeReg rt (s.readFCR fs).1) := gateCop1_of_cu1 cu1
  have ctc1 : exec (.ctc1 rt fs) s = complete (s.writeFCR fs (s.readWord rt)) := gateCop1_of_cu1 cu1
  refine ⟨writesGpr_of_complete (gateCop1_of_cu1 cu1) rfl,
    ⟨_, gateCop1_of_cu1 cu1, advanced_advance rfl rfl, rfl⟩, fun wide view => ?_, fun wide fr odd => ?_, ?_, ?_,
    fun low high => ?_⟩
  · have past {k : Answer} : gate64 s (gateCop1 s (gateDouble s fs k)) = k := by
      rw [gate64_of_wide wide, gateCop1_of_cu1 cu1, gateDouble_of_view view]
    exact ⟨writesGpr_of_complete past rfl, _, past, advanced_advance rfl rfl, rfl⟩
  · have stop {k : Answer} : gate64 s (gateCop1 s (gateDouble s fs k)) = .fault .oddDoubleRegister := by
      rw [gate64_of_wide wide, gateCop1_of_cu1 cu1, gateDouble_of_odd fr odd]
    exact ⟨stop, stop⟩
  · rintro rfl
    exact ⟨writesGpr_of_complete cfc1 rfl, onlyAdvances_of_complete ctc1⟩
  · rintro rfl
    exact ⟨writesGpr_of_complete cfc1 rfl, _, ctc1, advanced_advance rfl rfl, rfl, rfl⟩
  · rw [readFCR_unnamed low high] at cfc1
    rw [writeFCR_other _ (by rintro rfl; simp at high)] at ctc1
    exact ⟨writesDrawnGpr_of_complete cfc1 trivial, onlyAdvances_of_complete ctc1⟩

end Sys2Proof
end

section
/-! PROOF. The state after reset, the mode, and the views of the floating-point registers. -/

namespace Sys2Proof.Machine

/-! ## Mode and Op64 (R56, R72) -/

section
variable {s : State}

theorem mode?_kernel (h : s.exl = true ∨ s.erl = true ∨ s.ksu = 0#2) : s.mode? = some .kernel := by
  unfold State.mode?
  rcases h with h | h | h <;> rw [h] <;> simp

section
variable (exl : s.exl = false) (erl : s.erl = false)
include exl erl

theorem mode?_supervisor (ksu : s.ksu = 1#2) : s.mode? = some .supervisor := by
  unfold State.mode?
  rw [exl, erl, ksu]
  rfl

theorem mode?_user (ksu : s.ksu = 2#2) : s.mode? = some .user := by
  unfold State.mode?
  rw [exl, erl, ksu]
  rfl

theorem mode?_undefined (ksu : s.ksu = 3#2) : s.mode? = none := by
  unfold State.mode?
  rw [exl, erl, ksu]
  rfl

end

theorem op64?_of_kernel (h : s.mode? = some .kernel) : s.op64? = some true := by
  unfold State.op64?
  rw [h]

theorem op64?_of_supervisor (h : s.mode? = some .supervisor) : s.op64? = some s.sx := by
  unfold State.op64?
  rw [h]

theorem op64?_of_user (h : s.mode? = some .user) : s.op64? = some s.ux := by
  unfold State.op64?
  rw [h]

theorem op64?_of_undefined (h : s.mode? = none) : s.op64? = none := by
  unfold State.op64?
  rw [h]

theorem step_of_mode?_none (h : s.mode? = none) : step s = .fault .undefinedMode := by
  unfold step stepPhases
  rw [h]

end

/-! ## The views of the floating-point bank (R30 to R32) -/

section
variable (s : State)

/-- An even number and the odd one above it name one cell while FR = 0. -/
theorem pair_cell (e : Reg) (even : e.getLsbD 0 = false) :
    e &&& 0x1E#5 = e ∧ (e + 1) &&& 0x1E#5 = e ∧ (e + 1).getLsbD 0 = true := by
  revert e
  decide

/-- Where a number names the low half of cell `c`. -/
theorem wordView_low {i c : Reg} (half : s.upperHalf i = false) (cell : s.fpCell i = c) (v : Word) :
    s.readFW i = s.fpr[c.toNat].extractLsb' 0 32 ∧
    (s.writeFW i v).fpr = s.fpr.set c.toNat (s.fpr[c.toNat].extractLsb' 32 32 ++ v) := by
  subst cell
  simp [State.readFW, State.writeFW, half]

/-- Where a number names the upper half of cell `c`. -/
theorem wordView_high {i c : Reg} (half : s.upperHalf i = true) (cell : s.fpCell i = c) (v : Word) :
    s.readFW i = s.fpr[c.toNat].extractLsb' 32 32 ∧
    (s.writeFW i v).fpr = s.fpr.set c.toNat (v ++ s.fpr[c.toNat].extractLsb' 0 32) := by
  subst cell
  simp [State.readFW, State.writeFW, half]

end

/-! ## Reset (R74, R541, R542) -/

section
variable (cfg : Config) (map : List Window) (d : ResetDraw) (i : Inputs)

theorem resetStatus_getLsbD (k : Nat) : (resetStatus d).getLsbD k =
    if k = 2 ∨ k = 22 then true
    else if k = 19 ∨ k = 20 ∨ k = 21 ∨ k = 23 ∨ k = 27 then false else d.status.getLsbD k := by
  by_cases hk : k < 32
  · interval_cases k <;> simp [resetStatus, resetStatusFixed]
  · rw [BitVec.getLsbD_of_ge _ _ (by omega), BitVec.getLsbD_of_ge d.status _ (by omega), if_neg (by omega), ite_self]

theorem resetCause_getLsbD (k : Nat) : (d.cause &&& resetCauseFields).getLsbD k =
    if k ∈ [31, 29, 28, 15, 12, 10, 9, 8, 6, 5, 4, 3, 2] then d.cause.getLsbD k else false := by
  by_cases hk : k < 32
  · interval_cases k <;> simp [resetCauseFields]
  · rw [BitVec.getLsbD_of_ge _ _ (by omega), BitVec.getLsbD_of_ge d.cause _ (by omega), ite_self]

theorem interruptCondition_of_erl {s : State} (erl : s.erl = true) : s.interruptCondition = false := by
  simp [State.interruptCondition, erl]

/-- IP[2] and IP[4] follow their lines (R491). -/
theorem sampleInputs_ip (s : State) :
    s.sampleInputs.ip.getLsbD 2 = s.inputs.extLine ∧ s.sampleInputs.ip.getLsbD 4 = s.inputs.resetButton := by
  have ip (k : Nat) (hk : k < 8) : s.sampleInputs.ip.getLsbD k =
      (setBit (setBit s.cop0.cause 10 s.inputs.extLine) 12 s.inputs.resetButton).getLsbD (8 + k) := by
    simp [State.ip, State.sampleInputs, hk]
  constructor
  · rw [ip 2 (by decide), getLsbD_setBit _ _ _ _ (by decide), if_neg (by decide), getLsbD_setBit _ _ _ _ (by decide),
      if_pos rfl]
  · rw [ip 4 (by decide), getLsbD_setBit _ _ _ _ (by decide), if_pos rfl]

theorem reset_erl : (State.resetWith cfg map d).erl = true := (resetStatus_getLsbD d 2).trans (by simp)
theorem reset_bev : (State.resetWith cfg map d).bev = true := (resetStatus_getLsbD d 22).trans (by simp)

/-- The other bits of Config after reset are those of the parameter (R62). -/
theorem configRegister_open (c : Config) : c.configRegister &&& 0x7F00000F#32 = c.configValue &&& 0x7F00000F#32 := by
  apply BitVec.eq_of_getLsbD_eq
  intro k hk
  simp only [Config.configRegister, configFixedMask, configFixed, BitVec.getLsbD_and, BitVec.getLsbD_or,
    BitVec.getLsbD_not, hk]
  interval_cases k <;> simp

/-- Without a non-maskable request the first tick takes no event: ERL is set and nothing is pending. -/
theorem reset_tick (quiet : i.nmiReq = false) :
    ((State.resetWith cfg map d).driveInputs i).tick =
      ((State.resetWith cfg map d).driveInputs i).timer.sampleInputs := by
  rcases tick_cases ((State.resetWith cfg map d).driveInputs i) with h | ⟨ev, chosen, -⟩
  · exact h
  · have pending : ((State.resetWith cfg map d).driveInputs i).timer.sampleInputs.pending =
        ⟨none, false, false, false, false, false⟩ := by
      simp [State.sampleInputs, State.driveInputs, State.resetWith, quiet]
    have masked := interruptCondition_of_erl (s := ((State.resetWith cfg map d).driveInputs i).timer.sampleInputs)
      (reset_erl cfg map d)
    simp [State.chooseEvent, pending, masked] at chosen

end

end Sys2Proof.Machine

namespace Sys2Proof

open Machine

/-- Settles O19: the mode by the fields of Status. -/
theorem modeAndOperatingWidth : Obligations.ModeAndOperatingWidth := by
  intro s
  refine ⟨fun h => ?_, fun exl erl ksu => ?_, fun exl erl ksu => ?_, fun exl erl ksu => ?_⟩
  · have mode := mode?_kernel h
    exact ⟨mode, op64?_of_kernel mode⟩
  · have mode := mode?_supervisor exl erl ksu
    exact ⟨mode, op64?_of_supervisor mode⟩
  · have mode := mode?_user exl erl ksu
    exact ⟨mode, op64?_of_user mode⟩
  · have mode := mode?_undefined exl erl ksu
    exact ⟨mode, op64?_of_undefined mode, step_of_mode?_none mode⟩

/-- Settles O36: which half of which cell each register number names. -/
theorem floatingPointRegisterViews : Obligations.FloatingPointRegisterViews := by
  refine ⟨fun s i v fr => ?_, fun s i e v fr even => ⟨?_, ?_⟩, fun s i q v => State.readFD_writeFD s i q v⟩
  · obtain ⟨read, write⟩ := wordView_low s (i := i) (c := i) (by simp [State.upperHalf, fr])
      (by simp [State.fpCell, fr]) v
    exact ⟨read, doubleOk_of_view (.inl fr), rfl, write⟩
  · rintro rfl
    obtain ⟨cell, -, -⟩ := pair_cell i even
    obtain ⟨read, write⟩ := wordView_low s (i := i) (c := i) (by rw [State.upperHalf, even, Bool.and_false])
      (by simp [State.fpCell, fr, cell]) v
    exact ⟨read, doubleOk_of_view (.inr even), rfl, write⟩
  · rintro rfl
    obtain ⟨-, cell, odd⟩ := pair_cell e even
    obtain ⟨read, write⟩ := wordView_high s (i := e + 1) (c := e) (by rw [State.upperHalf, fr, odd]; rfl)
      (by rw [State.fpCell, fr, if_neg Bool.false_ne_true, cell]) v
    exact ⟨read, by rw [State.doubleOk, fr, odd]; rfl, write⟩

/-- Settles O1: the fields of the reset state one by one, and its first tick. -/
theorem resetLeavesTheStatedValues : Obligations.ResetLeavesTheStatedValues := by
  refine ⟨fun cfg map d => ?_, fun cfg map d i quiet => ?_⟩
  · intro s
    have erl : s.erl = true := reset_erl cfg map d
    have status (k : Nat) : s.cop0.status.getLsbD k = _ := resetStatus_getLsbD d k
    have cause (k : Nat) : s.cop0.cause.getLsbD k = _ := resetCause_getLsbD d k
    refine ⟨rfl, rfl, ⟨rfl, rfl, rfl, rfl⟩, ⟨rfl, rfl, rfl, rfl⟩, rfl, ⟨rfl, rfl, rfl, rfl, rfl⟩,
      ⟨erl, reset_bev cfg map d, ?_, ?_, ?_⟩, fun k _ _ _ _ _ _ _ _ => ?_, fun k field => ?_, fun k other => ?_,
      rfl, rfl, rfl, rfl, ⟨configRegister_fixed cfg, configRegister_open cfg⟩, ?_, ?_, rfl, rfl,
      mode?_kernel (.inr (.inl erl)), ?_⟩
    · rw [status]; rfl
    · rw [status]; rfl
    · rw [status]; rfl
    · rw [status, if_neg (by omega), if_neg (by omega)]
    · rw [cause, if_pos field]
    · rw [cause, if_neg other]
    · exact BitVec.toNat_setWidth_of_le (by decide)
    · exact BitVec.toNat_setWidth_of_le (by decide)
    · exact interruptCondition_of_erl erl
  · intro s
    have erl : s.timer.sampleInputs.erl = true := reset_erl cfg map d
    have exl : s.timer.sampleInputs.exl = _ := resetStatus_getLsbD d 1
    obtain ⟨extLine, resetButton⟩ := sampleInputs_ip s.timer
    rw [reset_tick cfg map d i quiet]
    exact ⟨rfl, erl, exl, op64?_of_kernel (mode?_kernel (.inr (.inl erl))), extLine, resetButton⟩

end Sys2Proof
end

section
/-! PROOF. The four rounding modes: when `roundShift` moves a quotient away from zero, and what follows of its
result. -/

namespace Sys2Proof.Machine

/-- When `m / 2^k` is rounded to the number above its whole part (R35, R393). -/
def RoundsAway (rm : Rounding) (neg : Bool) (m k : Nat) : Prop :=
  match rm with
  | .nearest => 2 ^ k < 2 * (m % 2 ^ k) ∨ (2 * (m % 2 ^ k) = 2 ^ k ∧ m / 2 ^ k % 2 = 1)
  | .zero => False
  | .up => m % 2 ^ k ≠ 0 ∧ neg = false
  | .down => m % 2 ^ k ≠ 0 ∧ neg = true

/-- An exact quotient is not moved. -/
theorem not_roundsAway_of_exact {rm : Rounding} {neg : Bool} {m k : Nat} (exact : m % 2 ^ k = 0) :
    ¬RoundsAway rm neg m k := by
  have pos := Nat.two_pow_pos k
  cases rm <;> simp only [RoundsAway, exact]
  case nearest => omega
  case zero | up | down => simp

section
variable {rm : Rounding} {neg lost : Bool} {m k r : Nat} (h : roundShift rm neg m k = (r, lost))
include h

theorem roundShift_lost : lost = true ↔ m % 2 ^ k ≠ 0 := by
  have e : decide (m % 2 ^ k ≠ 0) = lost := congrArg Prod.snd h
  rw [← e, decide_eq_true_eq]

theorem roundShift_value : (RoundsAway rm neg m k ∧ r = m / 2 ^ k + 1) ∨ (¬RoundsAway rm neg m k ∧ r = m / 2 ^ k) := by
  have e := (congrArg Prod.fst h).symm
  cases rm <;> simp only [roundShift] at e <;> split at e
  case zero.isTrue away => exact absurd away Bool.false_ne_true
  case zero.isFalse => exact .inr ⟨id, e⟩
  case nearest.isTrue away | up.isTrue away | down.isTrue away => exact .inl ⟨by simpa [RoundsAway] using away, e⟩
  case nearest.isFalse stays | up.isFalse stays | down.isFalse stays =>
    exact .inr ⟨by simpa [RoundsAway] using stays, e⟩

/-- The multiple of `2^k` that is delivered, by its distance from `m`. -/
theorem roundShift_multiple : (RoundsAway rm neg m k ∧ r * 2 ^ k + m % 2 ^ k = m + 2 ^ k) ∨
    (¬RoundsAway rm neg m k ∧ r * 2 ^ k + m % 2 ^ k = m) := by
  have division := Nat.div_add_mod' m (2 ^ k)
  rcases roundShift_value h with ⟨away, rfl⟩ | ⟨stays, rfl⟩
  · exact .inl ⟨away, by rw [Nat.add_mul]; omega⟩
  · exact .inr ⟨stays, division⟩

/-- No multiple above `m` is delivered unless the mode rounds away. -/
theorem roundShift_le (stays : ¬RoundsAway rm neg m k) : r * 2 ^ k ≤ m := by
  rcases roundShift_multiple h with ⟨away, -⟩ | ⟨-, multiple⟩
  · exact absurd away stays
  · omega

/-- No multiple below `m` is delivered where the mode rounds away all that is not exact. -/
theorem le_roundShift (away : m % 2 ^ k ≠ 0 → RoundsAway rm neg m k) : m ≤ r * 2 ^ k := by
  have small := Nat.mod_lt m (Nat.two_pow_pos k)
  rcases roundShift_multiple h with ⟨-, multiple⟩ | ⟨stays, multiple⟩
  · omega
  · have exact : m % 2 ^ k = 0 := by_contra fun lost => stays (away lost)
    omega

/-- Nearest, and the even one of two neighbours that are equally near. -/
theorem roundShift_nearest (nearest : rm = .nearest) :
    2 * (r * 2 ^ k) ≤ 2 * m + 2 ^ k ∧ 2 * m ≤ 2 * (r * 2 ^ k) + 2 ^ k ∧
    (2 * (r * 2 ^ k) = 2 * m + 2 ^ k ∨ 2 * m = 2 * (r * 2 ^ k) + 2 ^ k → r % 2 = 0) := by
  subst nearest
  have small := Nat.mod_lt m (Nat.two_pow_pos k)
  have value := roundShift_value h
  have multiple := roundShift_multiple h
  simp only [RoundsAway] at value multiple
  omega

end

end Sys2Proof.Machine

namespace Sys2Proof

open Machine

/-- Settles O54: the delivered multiple and the remainder decide every clause. -/
theorem roundingModes : Obligations.RoundingModes := by
  intro neg m k r lost rm h
  have small := Nat.mod_lt m (Nat.two_pow_pos k)
  refine ⟨roundShift_lost h, fun exact => ?_, ?_, fun nearest => ?_, ?_, ?_, ?_⟩
  · have remainder : m % 2 ^ k = 0 := by simpa [exact] using roundShift_lost h
    exact Nat.le_antisymm (roundShift_le h (not_roundsAway_of_exact remainder)) (le_roundShift h (absurd remainder))
  · rw [Nat.add_mul]
    rcases roundShift_multiple h with ⟨away, multiple⟩ | ⟨-, multiple⟩
    · have inexact : m % 2 ^ k ≠ 0 := fun exact => not_roundsAway_of_exact exact away
      omega
    · omega
  · obtain ⟨above, below, tie⟩ := roundShift_nearest h nearest
    exact ⟨above, below, fun equal _ => tie equal⟩
  · rintro rfl
    exact roundShift_le h id
  · rintro rfl
    exact ⟨fun negative => roundShift_le h fun ⟨_, positive⟩ => by simp [negative] at positive,
      fun positive => le_roundShift h fun lost => ⟨lost, positive⟩⟩
  · rintro rfl
    exact ⟨fun negative => le_roundShift h fun lost => ⟨lost, negative⟩,
      fun positive => roundShift_le h fun ⟨_, negative⟩ => by simp [positive] at negative⟩

end Sys2Proof
end

section
/-! PROOF. Floating point with no trap enabled: under gradual underflow no operation has the unimplemented-operation
condition, so the sequence of R392 runs to its end, or stops at a doubleword view that does not exist. -/

namespace Sys2Proof.Machine

/-! ## Under gradual underflow every operation has a result (R393) -/

theorem ite_implemented {c : Prop} [Decidable c] {x y : FpOut} (pos : x ≠ .unimplemented) (neg : y ≠ .unimplemented) :
    (if c then x else y) ≠ .unimplemented := by
  split
  · exact pos
  · exact neg

section
variable {nu : Numerics} (gradual : nu.denormal = .gradual) (f g : FloatFormat) (fl : Bool) (rm : Rounding)
include gradual

theorem operandOutcome_implemented {l : List Dword} {o : FpOut} (decided : operandOutcome f g nu l = some o) :
    o ≠ .unimplemented := by
  rintro rfl
  unfold operandOutcome FloatFormat.invalidOut at decided
  split at decided
  · cases decided
  · split at decided
    · cases decided
    · simp [gradual] at decided

theorem round_implemented (neg : Bool) (m : Nat) (e : Int) : f.round nu fl rm neg m e ≠ .unimplemented := by
  unfold FloatFormat.round
  rw [gradual]
  exact ite_implemented nofun (ite_implemented nofun nofun)

theorem addFinite_implemented (na : Bool) (ma : Nat) (ea : Int) (nb : Bool) (mb : Nat) (eb : Int) :
    f.addFinite nu fl rm na ma ea nb mb eb ≠ .unimplemented :=
  ite_implemented nofun (round_implemented gradual _ _ _ _ _ _)

theorem add_implemented (negate : Bool) (a b : Dword) : f.add nu fl rm negate a b ≠ .unimplemented := by
  unfold FloatFormat.add
  split
  case h_1 decided => exact operandOutcome_implemented gradual _ _ decided
  case h_2 =>
    split
    · exact addFinite_implemented gradual _ _ _ _ _ _ _ _ _
    · exact ite_implemented nofun nofun
    all_goals nofun

theorem mul_implemented (a b : Dword) : f.mul nu fl rm a b ≠ .unimplemented := by
  unfold FloatFormat.mul
  split
  case h_1 decided => exact operandOutcome_implemented gradual _ _ decided
  case h_2 =>
    split
    · exact round_implemented gradual _ _ _ _ _ _
    · nofun
    · exact ite_implemented nofun nofun
    · exact ite_implemented nofun nofun
    · nofun

theorem div_implemented (a b : Dword) : f.div nu fl rm a b ≠ .unimplemented := by
  unfold FloatFormat.div
  split
  case h_1 decided => exact operandOutcome_implemented gradual _ _ decided
  case h_2 =>
    split
    · exact ite_implemented (ite_implemented nofun nofun) (round_implemented gradual _ _ _ _ _ _)
    all_goals nofun

theorem sqrt_implemented (a : Dword) : f.sqrt nu fl rm a ≠ .unimplemented := by
  unfold FloatFormat.sqrt
  split
  case h_1 decided => exact operandOutcome_implemented gradual _ _ decided
  case h_2 =>
    split
    · exact ite_implemented nofun (ite_implemented nofun (round_implemented gradual _ _ _ _ _ _))
    · exact ite_implemented nofun nofun
    · nofun

theorem convert_implemented (a : Dword) : f.convert g nu fl rm a ≠ .unimplemented := by
  unfold FloatFormat.convert
  split
  case h_1 decided => exact operandOutcome_implemented gradual _ _ decided
  case h_2 =>
    split
    · exact round_implemented gradual _ _ _ _ _ _
    all_goals nofun

theorem ofInt_implemented (i : Int) : f.ofInt nu fl rm i ≠ .unimplemented := round_implemented gradual _ _ _ _ _ _

theorem toInteger_implemented (n : Nat) (a : Dword) : f.toInteger nu n rm a ≠ .unimplemented := by
  unfold FloatFormat.toInteger
  rw [gradual, if_neg (by simp)]
  split
  · nofun
  · nofun
  · exact ite_implemented nofun nofun

end

/-- ABS and NEG are sign-bit operations, or Invalid (R399, R401). -/
theorem signOperation_implemented (f : FloatFormat) (nu : Numerics) (a changed : Dword) :
    f.signOperation nu a changed ≠ .unimplemented := by
  unfold FloatFormat.signOperation
  refine ite_implemented ?_ nofun
  split <;> nofun

/-! ## The sequence of R392 with every Enable bit clear -/

/-- The answer moves on, raises nothing, and leaves the general registers, memory and coprocessor 0 as they were. -/
def Completes (s : State) (a : Answer) : Prop :=
  ∃ t, a = .next t ∧ Advanced s t ∧ t.pending = s.pending ∧ t.gpr = s.gpr ∧ t.mem = s.mem ∧ t.cop0 = s.cop0

/-- Every number of a register that the word of an operation names has a doubleword view (R32). -/
def AllViews (s : State) (ft fs fd : Reg) : Prop :=
  s.fr = true ∨ (ft.getLsbD 0 = false ∧ fs.getLsbD 0 = false ∧ fd.getLsbD 0 = false)

/-- The answer completes, or stops on an odd doubleword view (U13); where `views` holds it completes. -/
def CompletesUnlessOdd (s : State) (views : Prop) (a : Answer) : Prop :=
  (Completes s a ∨ a = .fault .oddDoubleRegister) ∧ (views → Completes s a)

section
variable {s : State} {ft fs fd : Reg} (views : AllViews s ft fs fd)
include views

theorem AllViews.ftOk : s.doubleOk ft = true := doubleOk_of_view (views.imp_right fun even => even.1)
theorem AllViews.fsOk : s.doubleOk fs = true := doubleOk_of_view (views.imp_right fun even => even.2.1)
theorem AllViews.fdOk : s.doubleOk fd = true := doubleOk_of_view (views.imp_right fun even => even.2.2)

end

section
variable {s : State} {ft fs fd : Reg}

theorem CompletesUnlessOdd.gateView {u : State} {views : Prop} {v : FpView} {r : Reg} {k : Answer}
    (view : views → u.doubleOk r = true) (h : CompletesUnlessOdd s views k) :
    CompletesUnlessOdd s views (gateView u v r k) := by
  cases v with
  | word => exact h
  | dword =>
    change CompletesUnlessOdd s views (gateDouble u r k)
    unfold gateDouble
    split
    · exact h
    · rename_i odd
      exact ⟨.inr rfl, fun all => absurd (view all) odd⟩

/-- A completed write of FCR31, the bank and the counter of free values. -/
theorem completes_advance (f : Word) (bank : Vector Dword 32) (n : Nat) :
    Completes s (complete { s with fcr31 := f, fpr := bank, draws := n }) :=
  ⟨_, rfl, advanced_advance rfl rfl, rfl, rfl, rfl, rfl⟩

theorem CompletesUnlessOdd.of_completes {views : Prop} {a : Answer} (h : Completes s a) :
    CompletesUnlessOdd s views a := ⟨.inl h, fun _ => h⟩

theorem writeResult_completes (v : FpView) (bits : Dword) (f : Word) (n : Nat) :
    CompletesUnlessOdd s (AllViews s ft fs fd) (writeResult v fd bits { s with fcr31 := f, draws := n }) := by
  refine .gateView (fun all => all.fdOk) (.of_completes ?_)
  rw [writeView_eq]
  exact completes_advance f _ n

/-- With every Enable bit clear no signal raises (R392 step 5). -/
theorem fpCommit_of_disabled {u : State} (disabled : enableField u.fcr31 = 0) (x : Signals) (k : State → Answer) :
    fpCommit u x k = k { u with fcr31 := withFlags (withCause u.fcr31 (causeOfSignals x)) x } :=
  if_pos (by rw [disabled]; exact BitVec.and_zero)

variable (cu1 : s.cu1 = true) (disabled : enableField s.fcr31 = 0)
include disabled

theorem fpFinish_completes {out : FpOut} (implemented : out ≠ .unimplemented) (dst : FloatFormat) (v : FpView) :
    CompletesUnlessOdd s (AllViews s ft fs fd) (fpFinish s dst v fd out) := by
  cases out with
  | result bits x =>
    change CompletesUnlessOdd s _ (fpCommit s x (writeResult v fd bits))
    rw [fpCommit_of_disabled disabled]
    exact writeResult_completes v bits _ s.draws
  | propagateNaN =>
    change CompletesUnlessOdd s _ (fpCommit s.draw.2 Signals.none (writeResult v fd (dst.someNaN s.draw.1)))
    rw [fpCommit_of_disabled (u := s.draw.2) disabled]
    exact writeResult_completes v _ _ (s.draws + 1)
  | unimplemented => exact absurd rfl implemented

include cu1

theorem fpBinary_completes {f : FloatFormat} {op : Numerics → Bool → Rounding → Dword → Dword → FpOut}
    (implemented : ∀ fl rm a b, op s.cfg.numerics fl rm a b ≠ .unimplemented) :
    CompletesUnlessOdd s (AllViews s ft fs fd) (fpBinary f op fd fs ft s) := by
  unfold fpBinary
  rw [gateCop1_of_cu1 cu1]
  exact .gateView (fun all => all.fsOk) (.gateView (fun all => all.ftOk)
    (fpFinish_completes disabled (implemented _ _ _ _) _ _))

theorem fpUnary_completes {src v : FpView} {dst : FloatFormat} {op : Numerics → Bool → Rounding → Dword → FpOut}
    (implemented : ∀ fl rm a, op s.cfg.numerics fl rm a ≠ .unimplemented) :
    CompletesUnlessOdd s (AllViews s ft fs fd) (fpUnary src dst v op fd fs s) := by
  unfold fpUnary
  rw [gateCop1_of_cu1 cu1]
  exact .gateView (fun all => all.fsOk) (fpFinish_completes disabled (implemented _ _ _) _ _)

theorem fpToInteger_completes (gradual : s.cfg.numerics.denormal = .gradual) (f : FloatFormat) (n : Nat)
    (rm : Option Rounding) : CompletesUnlessOdd s (AllViews s ft fs fd) (fpToInteger f n rm fd fs s) :=
  fpUnary_completes cu1 disabled fun _ _ _ => toInteger_implemented gradual _ _ _ _

theorem fpCompare_completes (f : FloatFormat) (cond : BitVec 4) :
    CompletesUnlessOdd s (AllViews s ft fs fd) (fpCompare f cond fs ft s) := by
  unfold fpCompare
  rw [gateCop1_of_cu1 cu1]
  refine .gateView (fun all => all.fsOk) (.gateView (fun all => all.ftOk) (.of_completes ?_))
  dsimp only
  rw [fpCommit_of_disabled disabled]
  exact completes_advance _ s.fpr s.draws

omit disabled in
theorem fpMove_completes (v : FpView) : CompletesUnlessOdd s (AllViews s ft fs fd) (fpMove v fd fs s) := by
  unfold fpMove
  rw [gateCop1_of_cu1 cu1]
  exact .gateView (fun all => all.fsOk) (writeResult_completes v _ s.fcr31 s.draws)

end

/-- Every operation of the formats S, D, W and L, by the shape of its meaning. -/
theorem fpOperation_completes (i : Instr) (s : State) (op : opOf (encode i) = 17)
    (format : 16 ≤ (rsOf (encode i)).toNat) (cu1 : s.cu1 = true) (disabled : enableField s.fcr31 = 0)
    (gradual : s.cfg.numerics.denormal = .gradual) :
    CompletesUnlessOdd s (AllViews s (rtOf (encode i)) (rdOf (encode i)) (saOf (encode i))) (exec i s) := by
  cases i <;> simp [encode] at op format ⊢ <;> unfold exec  -- every other instruction has another word
  case addS | addD | subS | subD =>
    exact fpBinary_completes cu1 disabled fun _ _ _ _ => add_implemented gradual _ _ _ _ _ _
  case mulS | mulD => exact fpBinary_completes cu1 disabled fun _ _ _ _ => mul_implemented gradual _ _ _ _ _
  case divS | divD => exact fpBinary_completes cu1 disabled fun _ _ _ _ => div_implemented gradual _ _ _ _ _
  case sqrtS | sqrtD => exact fpUnary_completes cu1 disabled fun _ _ _ => sqrt_implemented gradual _ _ _ _
  case absS | absD | negS | negD =>
    exact fpUnary_completes cu1 disabled fun _ _ _ => signOperation_implemented _ _ _ _
  case movS | movD => exact fpMove_completes cu1 _
  case cvtSD | cvtDS => exact fpUnary_completes cu1 disabled fun _ _ _ => convert_implemented gradual _ _ _ _ _
  case cvtSW | cvtSL | cvtDW | cvtDL =>
    exact fpUnary_completes cu1 disabled fun _ _ _ => ofInt_implemented gradual _ _ _ _
  case roundLS | roundLD | truncLS | truncLD | ceilLS | ceilLD | floorLS | floorLD | roundWS | roundWD | truncWS
      | truncWD | ceilWS | ceilWD | floorWS | floorWD | cvtWS | cvtWD | cvtLS | cvtLD =>
    exact fpToInteger_completes cu1 disabled gradual _ _ _
  case cFS | cFD | cUnS | cUnD | cEqS | cEqD | cUeqS | cUeqD | cOltS | cOltD | cUltS | cUltD | cOleS | cOleD | cUleS
      | cUleD | cSfS | cSfD | cNgleS | cNgleD | cSeqS | cSeqD | cNglS | cNglD | cLtS | cLtD | cNgeS | cNgeD | cLeS
      | cLeD | cNgtS | cNgtD => exact fpCompare_completes cu1 disabled _ _

end Sys2Proof.Machine

namespace Sys2Proof

open Machine

/-- Settles O52: no operation is unimplemented under gradual underflow and no signal raises, so each completes past its
views. -/
theorem untrappedFloatingPointCompletes : Obligations.UntrappedFloatingPointCompletes :=
  fun i s op format cu1 disabled gradual => fpOperation_completes i s op format cu1 disabled gradual

end Sys2Proof
end

section
/-! PROOF. Bytes, devices, the address map and translation: the bytes of a value and the value of bytes (R90, R94, R95),
what a device holds after a write (R85 to R87), the window an address resolves to (R83, R84), the answers of `Translate`
(R82). -/

namespace Sys2Proof.Machine

variable {m : Memory} {d e : Device} {map : List Window} {w : Window} {pa : Nat} {cfg : Config} {a : Word}

/-! ## Byte order (R90, R94, R95) -/

theorem getElem_bigEndianBytes {n j : Nat} {v : Dword} (h : j < (bigEndianBytes n v).length) :
    (bigEndianBytes n v)[j] = byteOf n v j := by
  induction n generalizing j with
  | zero => simp at h
  | succ n ih =>
    cases j with
    | zero => rfl
    | succ j =>
      have place : n - (j + 1) = n - 1 - j := by omega
      simp only [bigEndianBytes, List.getElem_cons_succ, ih, byteOf, Nat.add_sub_cancel, place]

theorem bigEndianValue_concat (bs : List Byte) (b : Byte) :
    bigEndianValue (bs ++ [b]) = (bigEndianValue bs <<< 8) ||| b.setWidth 64 := by
  simp only [bigEndianValue, List.foldl_append, List.foldl_cons, List.foldl_nil]

theorem bigEndianValue_lt (bs : List Byte) : (bigEndianValue bs).toNat < 2 ^ (8 * bs.length) := by
  induction bs using List.reverseRecOn with
  | nil => exact Nat.one_pos
  | append_singleton bs b ih =>
    have width : 8 * (bs ++ [b]).length = 8 * bs.length + 8 := by simp [Nat.mul_add]
    have high : ((bigEndianValue bs) <<< 8).toNat < 2 ^ (8 * bs.length + 8) := by
      rw [BitVec.toNat_shiftLeft, Nat.shiftLeft_eq]
      exact (Nat.mod_le _ _).trans_lt (by rw [Nat.pow_add]; omega)
    have low : (b.setWidth 64).toNat < 2 ^ (8 * bs.length + 8) := by
      rw [BitVec.toNat_setWidth]
      exact (Nat.mod_le _ _).trans_lt (b.isLt.trans_le (Nat.pow_le_pow_right Nat.two_pos (by omega)))
    rw [bigEndianValue_concat, BitVec.toNat_or, width]
    exact Nat.or_lt_two_pow high low

/-- The last byte of a value that has one byte more is that byte, and the others are those of the value before it. -/
theorem byteOf_append {n j : Nat} (small : n < 8) (v : Dword) (b : Byte) (h : j ≤ n) :
    byteOf (n + 1) ((v <<< 8) ||| b.setWidth 64) j = if j = n then b else byteOf n v j := by
  split
  · subst j
    apply BitVec.eq_of_getLsbD_eq
    intro k hk
    simp [byteOf, hk]
  · apply BitVec.eq_of_getLsbD_eq
    intro k hk
    have place : 8 * (n + 1 - 1 - j) + k = 8 * (n - 1 - j) + k + 8 := by omega
    have inside : 8 * (n - 1 - j) + k + 8 < 64 := by omega
    simp only [byteOf, BitVec.getLsbD_setWidth, BitVec.getLsbD_ushiftRight, BitVec.getLsbD_or, BitVec.getLsbD_shiftLeft,
      place]
    simp [hk, inside]

theorem byteOf_bigEndianValue {bs : List Byte} {n j : Nat} (length : bs.length = n) (small : n ≤ 8) (h : j < n) :
    byteOf n (bigEndianValue bs) j = bs[j] := by
  induction bs using List.reverseRecOn generalizing n with
  | nil =>
    subst length
    exact absurd h (Nat.not_lt_zero j)
  | append_singleton bs b ih =>
    obtain rfl : bs.length + 1 = n := by simpa using length
    rw [bigEndianValue_concat, byteOf_append (by omega) _ _ (by omega), List.getElem_append]
    split
    · simp [*]
    · have before : j < bs.length := by omega
      rw [dif_pos before, ih rfl (by omega) before]

/-! ## What a device holds (R85 to R87) -/

theorem deviceByte_of_lt_cells {o : Nat} (h : o < (Device.cells d).2) :
    deviceByte d m o = some (Memory.read m ((Device.cells d).1 + o)) := by
  cases d with
  | ram => exact congrArg some (if_pos h)
  | storage | rom => exact if_pos h
  | peripheral | placeholder => exact absurd h (Nat.not_lt_zero o)

/-- A byte outside the cells of its device does not depend on memory. -/
theorem deviceByte_of_cells_le {o : Nat} (h : (Device.cells d).2 ≤ o) (m' : Memory) :
    deviceByte d m' o = deviceByte d m o := by
  cases d with
  | ram | storage | rom =>
    simp only [Device.cells] at h
    simp only [deviceByte, if_neg (Nat.not_lt.2 h)]
  | peripheral | placeholder => rfl

/-- The cell that a write changes is one of those that hold the device's bytes. -/
theorem deviceCell_some {off k : Nat} (h : deviceCell d off = some k) :
    off < (Device.cells d).2 ∧ k = (Device.cells d).1 + off := by
  cases d with
  | ram | storage =>
    simp only [deviceCell] at h
    split at h
    · cases h
      exact ⟨‹_›, rfl⟩
    · cases h
  | rom | peripheral | placeholder => cases h

/-- A device's byte is as before where the cell that holds it is. -/
theorem deviceByte_congr {m' : Memory} {o : Nat}
    (same : o < (Device.cells d).2 →
      Memory.read m' ((Device.cells d).1 + o) = Memory.read m ((Device.cells d).1 + o)) :
    deviceByte d m' o = deviceByte d m o := by
  by_cases h : o < (Device.cells d).2
  · rw [deviceByte_of_lt_cells h, deviceByte_of_lt_cells h, same h]
  · exact deviceByte_of_cells_le (Nat.not_lt.1 h) m'

/-- A byte of a device whose offset no write covers is as before. -/
theorem deviceByte_deviceWrite_of_outside (wf : m.wf = true) {off o : Nat} {bs : List Byte}
    (outside : o < off ∨ off + bs.length ≤ o) : deviceByte d (deviceWrite d m off bs) o = deviceByte d m o := by
  refine deviceByte_congr fun _ => read_deviceWrite_of_not_cell d off bs wf _ fun i hi cell => ?_
  have := (deviceCell_some cell).2
  omega

/-- Two devices are the same, or their cells are apart, or one of them has none (R83, log 32). -/
theorem Device.apart_iff : Device.apart d e = true ↔
    d = e ∨ (Device.cells d).1 + (Device.cells d).2 ≤ (Device.cells e).1 ∨
      (Device.cells e).1 + (Device.cells e).2 ≤ (Device.cells d).1 ∨ (Device.cells d).2 = 0 ∨
      (Device.cells e).2 = 0 := by
  simp only [Device.apart, Bool.or_eq_true, decide_eq_true_eq, or_assoc]

/-- A write to one device changes no byte of another that shares no cell with it. -/
theorem deviceByte_deviceWrite_of_apart (wf : m.wf = true) (ne : d ≠ e) (apart : Device.apart d e = true)
    (off o : Nat) (bs : List Byte) : deviceByte e (deviceWrite d m off bs) o = deviceByte e m o := by
  have cells := (Device.apart_iff.1 apart).resolve_left ne
  refine deviceByte_congr fun held => read_deviceWrite_of_not_cell d off bs wf _ fun i _ cell => ?_
  obtain ⟨written, same⟩ := deviceCell_some cell
  omega

/-- A cell holds the byte written to the offset that names it: no later offset names it again. -/
theorem read_deviceWrite_of_cell (wf : m.wf = true) {off k j : Nat} {bs : List Byte} (h : j < bs.length)
    (cell : deviceCell d (off + j) = some k) : Memory.read (deviceWrite d m off bs) k = bs[j] := by
  induction bs generalizing m off j with
  | nil => simp at h
  | cons b rest ih =>
    have wf' := deviceWriteByte_wf d off b wf
    cases j with
    | zero =>
      have later : ∀ i, i < rest.length → deviceCell d (off + 1 + i) ≠ some k := fun i _ again => by
        have := (deviceCell_some cell).2
        have := (deviceCell_some again).2
        omega
      rw [deviceWrite, read_deviceWrite_of_not_cell d _ _ wf' k later, read_deviceWriteByte d _ _ wf]
      exact if_pos cell
    | succ j => exact ih wf' (by simpa using h) (by rwa [Nat.add_assoc, Nat.add_comm 1 j])

theorem stored_deviceWrite (wf : m.wf = true) (d : Device) (off n : Nat) (v : Dword) :
    Stored m (deviceWrite d m off (bigEndianBytes n v)) d off n v := by
  refine ⟨fun j k hj cell => ?_, fun k other => read_deviceWrite_of_not_cell d off _ wf k (by simpa using other)⟩
  rw [read_deviceWrite_of_cell wf (by simpa using hj) cell, getElem_bigEndianBytes]

/-- A device that takes the byte at an offset reads there as what was stored. -/
theorem deviceByte_deviceWrite_of_cell (wf : m.wf = true) {off n j k : Nat} (v : Dword) (hj : j < n)
    (cell : deviceCell d (off + j) = some k) :
    deviceByte d (deviceWrite d m off (bigEndianBytes n v)) (off + j) = some (byteOf n v j) := by
  obtain ⟨held, same⟩ := deviceCell_some cell
  rw [deviceByte_of_lt_cells held, ← same, (stored_deviceWrite wf d off n v).1 j k hj cell]

/-- A device that ignores every byte, as a ROM, a peripheral and a placeholder do (logs 6 and 7), leaves memory as it
is. -/
theorem deviceWrite_of_ignored (ignored : ∀ m off b, deviceWriteByte d m off b = m) (off : Nat) (bs : List Byte) :
    deviceWrite d m off bs = m := by
  induction bs generalizing off with
  | nil => rfl
  | cons b rest ih => rw [deviceWrite, ignored, ih]

theorem deviceBytes_of_held {off n : Nat} {b : Nat → Byte} (held : ∀ j, j < n → deviceByte d m (off + j) = some (b j)) :
    deviceBytes d m off n = some ((List.range n).map b) := by
  induction n generalizing off b with
  | zero => rfl
  | succ n ih =>
    have rest : deviceBytes d m (off + 1) n = some ((List.range n).map fun j => b (j + 1)) :=
      ih fun j hj => by rw [Nat.add_assoc, Nat.add_comm 1 j]; exact held (j + 1) (by omega)
    have first : deviceByte d m off = some (b 0) := held 0 (by omega)
    simp only [deviceBytes, first, rest, List.range_succ_eq_map, List.map_cons, List.map_map]
    rfl

/-- A load of bytes that the device holds gives the value of those bytes, and leaves the machine as it is (R90). -/
theorem loadedFrom_of_held {s : State} {w : Window} {off n : Nat} {b : Nat → Byte}
    (held : ∀ j, j < n → deviceByte w.device s.mem (off + j) = some (b j)) :
    loadedFrom s w off n = (bigEndianValue ((List.range n).map b), s) := by
  rw [loadedFrom, deviceBytes_of_held held]

/-! ## The address map (R83, R84) -/

theorem resolve_eq_none : resolve map pa = none ↔ ∀ w ∈ map, pa < w.base ∨ w.base + w.length ≤ pa := by
  induction map with
  | nil => simp [resolve]
  | cons v rest ih =>
    unfold resolve
    split
    · rename_i hit
      exact iff_of_false (Option.some_ne_none _) fun misses => by
        have := misses v List.mem_cons_self
        omega
    · rename_i miss
      rw [ih, List.forall_mem_cons]
      exact (and_iff_right (by omega)).symm

theorem Window.disjoint_iff {v w : Window} :
    Window.disjoint v w = true ↔ v.base + v.length ≤ w.base ∨ w.base + w.length ≤ v.base := by
  simp only [Window.disjoint, Bool.or_eq_true, decide_eq_true_eq]

/-- Two windows of a well-formed map share no address, and their devices share no byte (R83, log 32). -/
theorem disjoint_of_mapWf (wf : mapWf map = true) {v w : Window} (hv : v ∈ map) (hw : w ∈ map) (ne : v ≠ w) :
    Window.disjoint v w = true ∧ Device.apart v.device w.device = true := by
  induction map with
  | nil => cases hv
  | cons u rest ih =>
    obtain ⟨-, -, first, later⟩ := mapWf_cons wf
    rcases List.mem_cons.1 hv with rfl | hv' <;> rcases List.mem_cons.1 hw with rfl | hw'
    · exact absurd rfl ne
    · exact first w hw'
    · obtain ⟨disjoint, apart⟩ := first v hv'
      rw [Window.disjoint_iff] at disjoint ⊢
      rw [Device.apart_iff] at apart ⊢
      exact ⟨disjoint.symm, by tauto⟩
    · exact ih later hv' hw'

/-- On a well-formed map an address of a window resolves to that window. -/
theorem resolve_of_mem (wf : mapWf map = true) (mem : w ∈ map) (low : w.base ≤ pa) (high : pa < w.base + w.length) :
    resolve map pa = some (w, pa - w.base) := by
  cases found : resolve map pa with
  | none => exact absurd (resolve_eq_none.1 found w mem) (by omega)
  | some hit =>
    obtain ⟨v, off⟩ := hit
    obtain ⟨mem', low', high', rfl⟩ := resolve_some found
    by_cases same : v = w
    · rw [same]
    · have := Window.disjoint_iff.1 (disjoint_of_mapWf wf mem' mem same).1
      omega

/-- A window that fits its device is no longer than its Size, RAM apart (R85, R87). -/
theorem length_le_size_of_fits (fits : Window.fits w = true)
    (noRam : ∀ store capacity, w.device ≠ .ram store capacity) : w.length ≤ w.device.size := by
  unfold Window.fits at fits
  cases device : w.device with
  | ram store capacity => exact absurd device (noRam store capacity)
  | storage | rom | peripheral | placeholder => simpa [device, Device.size] using fits

/-! ## The effective address and its translation (R82, R340) -/

theorem effectiveAddress_toInt (base : Dword) (offset : Half) :
    (effectiveAddress true base offset).toInt = (base.toInt + offset.toInt).bmod (2 ^ 64) ∧
    (effectiveAddress false base offset).toInt = ((trunc32 base).toInt + offset.toInt).bmod (2 ^ 32) := by
  constructor
  · change (base + sext64 offset).toInt = _
    rw [BitVec.toInt_add, BitVec.toInt_signExtend_of_le (by decide)]
  · change (sext64 (trunc32 base + offset.signExtend 32)).toInt = _
    rw [BitVec.toInt_signExtend_of_le (by decide), BitVec.toInt_add, BitVec.toInt_signExtend_of_le (by decide)]

/-- The ranges of a stub before the first that contains the address do not answer for it. -/
theorem stubLookup_append {before after : List StubRange} {miss : RefillKind}
    (h : ∀ q ∈ before, a.toNat < q.base ∨ q.base + q.length ≤ a.toNat) :
    stubLookup miss a (before ++ after) = stubLookup miss a after := by
  induction before with
  | nil => rfl
  | cons q rest ih =>
    have outside := h q List.mem_cons_self
    rw [List.cons_append, stubLookup, if_neg (by omega), ih fun r hr => h r (List.mem_cons_of_mem _ hr)]

theorem stubLookup_miss {ranges : List StubRange} {miss : RefillKind}
    (h : ∀ q ∈ ranges, a.toNat < q.base ∨ q.base + q.length ≤ a.toNat) : stubLookup miss a ranges = .refill miss := by
  rw [← List.append_nil ranges, stubLookup_append h]
  rfl

/-- The first range that contains the address answers for it. -/
theorem stubLookup_cons {r : StubRange} {after : List StubRange} {miss : RefillKind} (low : r.base ≤ a.toNat)
    (high : a.toNat < r.base + r.length) :
    (∀ kind, r.answer = .refill kind → stubLookup miss a (r :: after) = .refill kind) ∧
    (∀ frame, r.answer = .mapped frame →
      stubLookup miss a (r :: after) = .mapped (frame + BitVec.ofNat 32 (a.toNat - r.base))) := by
  refine ⟨fun kind answer => ?_, fun frame answer => ?_⟩ <;> rw [stubLookup, if_pos ⟨low, high⟩, answer]

/-- The addresses of KSEG0 and KSEG1. -/
theorem unmapped_iff : 0x80000000#32 ≤ a ∧ a ≤ 0xBFFFFFFF#32 ↔ 0x80000000 ≤ a.toNat ∧ a.toNat ≤ 0xBFFFFFFF := Iff.rfl

theorem translateAddr_identity (kind : cfg.translate = .identity) : translateAddr cfg a = some a := by
  rw [translateAddr_eq_some, translate, kind]

/-- KSEG0 and KSEG1 are both mapped to the low 512 MiB. -/
theorem translateAddr_unmapped (kind : cfg.translate = .kseg) (low : 0x80000000 ≤ a.toNat)
    (high : a.toNat ≤ 0xBFFFFFFF) : translateAddr cfg a = some (BitVec.ofNat 32 (a.toNat % 0x20000000)) := by
  have masked : a &&& 0x1FFFFFFF#32 = BitVec.ofNat 32 (a.toNat % 0x20000000) := by
    apply BitVec.eq_of_toNat_eq
    change a.toNat &&& (2 ^ 29 - 1) = a.toNat % 0x20000000 % 2 ^ 32
    rw [Nat.and_two_pow_sub_one_eq_mod]
    omega
  rw [translateAddr_eq_some, translate, kind, ← masked]
  exact if_pos (unmapped_iff.2 ⟨low, high⟩)

section
variable (kind : cfg.translate = .kseg) (outside : a.toNat < 0x80000000 ∨ 0xBFFFFFFF < a.toNat)
include kind outside

theorem translate_without_stub (none : cfg.tlbStub = none) : translate cfg a = .outsideBlock := by
  rw [translate, kind, none]
  exact if_neg (by rw [unmapped_iff]; omega)

theorem translate_with_stub {stub : TlbStub} (supplied : cfg.tlbStub = some stub) :
    translate cfg a = stubLookup stub.miss a stub.ranges := by
  rw [translate, kind, supplied]
  exact if_neg (by rw [unmapped_iff]; omega)

end

end Sys2Proof.Machine

namespace Sys2Proof

open Machine

/-- Settles O40: each clause is a law of the function it speaks of; those about several devices rest on the cells of
two devices being apart. -/
theorem addressesAndByteOrder : Obligations.AddressesAndByteOrder := by
  refine ⟨effectiveAddress_toInt, fun cfg a => ⟨translateAddr_identity, translateAddr_unmapped, fun kind outside =>
    ⟨translate_without_stub kind outside, fun stub supplied => ?_⟩⟩, fun map pa wf => ?_, ?_, ?_, ?_⟩
  · simp only [translateAddr_eq_some, translate_with_stub kind outside supplied]
    refine ⟨stubLookup_miss, fun before r after ranges missed low high => ?_⟩
    rw [ranges, stubLookup_append missed]
    exact stubLookup_cons low high
  · refine ⟨fun w mem low high => resolve_of_mem wf mem low high, resolve_eq_none.2,
      fun w off n found inside noRam => ?_⟩
    obtain ⟨mem, -⟩ := resolve_some found
    exact inside.trans (length_le_size_of_fits (fits_of_mapWf wf mem) noRam)
  · intro m d store size off n v wf _
    refine ⟨?_, ?_, ?_⟩
    · rintro rfl
      exact ⟨fun j hj held => deviceByte_deviceWrite_of_cell wf v hj (if_pos held),
        fun o outside => deviceByte_deviceWrite_of_outside wf (by simpa using outside),
        fun o held => deviceByte_of_lt_cells held⟩
    · rintro rfl
      exact ⟨deviceWrite_of_ignored (fun _ _ _ => rfl) _ _, fun o held => deviceByte_of_lt_cells held⟩
    · rintro (rfl | rfl) <;> exact ⟨deviceWrite_of_ignored (fun _ _ _ => rfl) _ _, fun _ => rfl⟩
  · intro map w w' m off o bytes wf mem mem' ne memWf
    have apart := (disjoint_of_mapWf wf mem mem' fun same => ne (congrArg Window.device same)).2
    exact deviceByte_deviceWrite_of_apart memWf ne apart off o bytes
  · intro s w off n b small held
    rw [loadedFrom_of_held held]
    refine ⟨rfl, fun j hj => ?_, by simpa using bigEndianValue_lt ((List.range n).map b)⟩
    exact (byteOf_bigEndianValue (by simp) small hj).trans (by simp)

end Sys2Proof
end

section
/-! PROOF. The router in terms of the window it resolves an address to (R84, R89), and the bulk copy granule by granule
(R105). -/

namespace Sys2Proof.Machine

variable {s t : State} {pa src dst : Word} {n : Nat}

/-! ## The router (R84, R89) -/

theorem routerRead_eq_some {p : Dword × State} : routerRead s pa n = some p ↔
    ∃ w off, resolve s.map pa.toNat = some (w, off) ∧ off + n ≤ w.length ∧ loadedFrom s w off n = p := by
  cases found : resolve s.map pa.toNat with
  | none => simp [routerRead, found]
  | some hit =>
    obtain ⟨w, off⟩ := hit
    have read : routerRead s pa n = if off + n ≤ w.length then some (loadedFrom s w off n) else none := by
      simp only [routerRead, found, loadedFrom]
      cases deviceBytes w.device s.mem off n <;> rfl
    rw [read]
    simp

theorem routerWrite_of_window {v : Dword} {w : Window} {off : Nat} (found : resolve s.map pa.toNat = some (w, off))
    (inside : off + n ≤ w.length) :
    routerWrite s pa n v = some { s with mem := deviceWrite w.device s.mem off (bigEndianBytes n v) } := by
  rw [routerWrite, found]
  exact if_pos inside

/-! ## The bulk copy (R105) -/

/-- A load changes nothing that the router or a later write reads. -/
theorem loadedFrom_frame (s : State) (w : Window) (off n : Nat) :
    (loadedFrom s w off n).2.map = s.map ∧ (loadedFrom s w off n).2.mem = s.mem := by
  unfold loadedFrom
  split <;> exact ⟨rfl, rfl⟩

/-- A granule is four bytes loaded from one window and stored in another. -/
theorem copyGranule_of_windows {w w' : Window} {off off' : Nat} (found : resolve s.map src.toNat = some (w, off))
    (inside : off + 4 ≤ w.length) (found' : resolve s.map dst.toNat = some (w', off'))
    (inside' : off' + 4 ≤ w'.length) :
    copyGranule s src dst = .next { (loadedFrom s w off 4).2 with
      mem := deviceWrite w'.device s.mem off' (bigEndianBytes 4 (loadedFrom s w off 4).1) } := by
  obtain ⟨map, mem⟩ := loadedFrom_frame s w off 4
  rw [copyGranule, routerRead_eq_some.2 ⟨w, off, found, inside, rfl⟩]
  dsimp only
  rw [routerWrite_of_window (map ▸ found') inside', mem]

/-- A granule is copied only where both windows cover it. -/
theorem copyGranule_next (h : copyGranule s src dst = .next t) : ∃ w off w' off',
    resolve s.map src.toNat = some (w, off) ∧ off + 4 ≤ w.length ∧ resolve s.map dst.toNat = some (w', off') ∧
      off' + 4 ≤ w'.length := by
  unfold copyGranule at h
  split at h
  · rename_i v u read
    obtain ⟨w, off, found, inside, loaded⟩ := routerRead_eq_some.1 read
    split at h
    · rename_i written
      obtain ⟨w', off', found', inside', -⟩ := routerWrite_some written
      have map := (loadedFrom_frame s w off 4).1
      rw [loaded] at map
      exact ⟨w, off, w', off', found, inside, map ▸ found', inside'⟩
    · cases h
  · cases h

theorem bulkCopy_granules (k : Nat) (s : State) : bulkCopy src dst (4 * k) s = copyGranules k src dst s := by
  rw [bulkCopy, if_pos (Nat.mul_mod_right 4 k), Nat.mul_div_cancel_left k (by decide)]

theorem bulkCopy_four (s : State) : bulkCopy src dst 4 s = copyGranule s src dst := by
  rw [show 4 = 4 * 1 from rfl, bulkCopy_granules, copyGranules]
  cases copyGranule s src dst <;> rfl

end Sys2Proof.Machine

namespace Sys2Proof

open Machine

/-- Settles O48: RAM is a device whose cells end at its capacity; a granule is a load and a store through the router,
and the bulk copy is its granules in order. -/
theorem ramCapacityAndBulkCopy : Obligations.RamCapacityAndBulkCopy := by
  refine ⟨fun m store capacity off n v wf _ => ⟨deviceWrite_wf _ _ _ wf, fun o beyond => ?_, fun j hj below => ?_,
    fun o outside => ?_⟩, fun src dst n s odd => if_neg odd, fun src dst s => bulkCopy_granules 0 s,
    fun src dst s t wf copied => ?_, fun src dst s w w' off off' found inside found' inside' => ?_,
    fun src dst k s t copied => ?_⟩
  · have fixed := deviceByte_of_cells_le (d := .ram store capacity) (m := m) beyond
    exact ⟨fixed _, fixed⟩
  · exact deviceByte_deviceWrite_of_cell wf v hj (if_pos below)
  · exact deviceByte_deviceWrite_of_outside wf (by simpa using outside)
  · rw [bulkCopy_four] at copied
    obtain ⟨w, off, w', off', found, inside, found', inside'⟩ := copyGranule_next copied
    rw [copyGranule_of_windows found inside found' inside'] at copied
    cases copied
    exact ⟨w, off, w', off', found, found', rfl, stored_deviceWrite wf _ _ _ _⟩
  · exact ⟨_, (bulkCopy_four s).trans (copyGranule_of_windows found inside found' inside')⟩
  · rw [bulkCopy_four] at copied
    rw [bulkCopy_granules k t, ← Nat.mul_succ, bulkCopy_granules, copyGranules, copied]

end Sys2Proof
end

section
/-! PROOF. Accesses that do not go through: the alignment rule (R96, R97), the device-not-found condition (R113), and
an address without translation (R82, R484), for the loads and stores and for the fetch. -/

namespace Sys2Proof.Machine

variable {s : State} {i : Instr} {va : Dword} {n : Nat} {wide : Bool} {base : Reg} {o : Half}

theorem withOp64_of_some {k : Bool → Answer} (op : s.op64? = some wide) : withOp64 s k = k wide := by
  rw [withOp64, op]

/-! ## The alignment rule (R96, R97) -/

section
variable {x : Dword → Exc} {k : Dword → Answer}

theorem withAddress_of_misaligned (op : s.op64? = some wide) (trap : s.cfg.misaligned = .trap)
    (odd : (dataAddress s wide base o).toNat % n ≠ 0) :
    withAddress n x base o s k = raise (x (dataAddress s wide base o)) s := by
  rw [withAddress, withOp64_of_some op]
  exact if_pos (by rw [State.misaligned, trap]; exact decide_eq_true odd)

theorem withAddress_of_aligned (op : s.op64? = some wide) (aligned : AlignedFor s (dataAddress s wide base o) n) :
    withAddress n x base o s k = k (dataAddress s wide base o) := by
  have passes : s.misaligned (dataAddress s wide base o) n = false := by
    rw [State.misaligned]
    rcases aligned with perform | even
    · rw [perform]
    · cases s.cfg.misaligned
      · simpa using even
      · rfl
  rw [withAddress, withOp64_of_some op]
  exact if_neg (by rw [← dataAddress, passes]; decide)

end

/-! ## An access that reaches no device, or has no translation (R82, R113, R484) -/

/-- Where no device is found, the address has a router address at which the router neither reads nor writes. -/
theorem FindsNoDevice.router (none : FindsNoDevice s va n) : ∃ pa, translate s.cfg (trunc32 va) = .mapped pa ∧
    routerRead s pa n = Option.none ∧ ∀ v, routerWrite s pa n v = Option.none := by
  obtain ⟨pa, mapped, leaves⟩ := none
  refine ⟨pa, translateAddr_eq_some.1 mapped, Option.eq_none_iff_forall_ne_some.2 fun p read => ?_,
    fun v => Option.eq_none_iff_forall_ne_some.2 fun t written => ?_⟩
  · obtain ⟨w, off, found, inside, -⟩ := routerRead_eq_some.1 read
    exact absurd inside (Nat.not_le.2 (leaves w off found))
  · obtain ⟨w, off, found, inside, -⟩ := routerWrite_some written
    exact absurd inside (Nat.not_le.2 (leaves w off found))

section
variable (small : n ≤ scratchCapacity)
include small

theorem memRead_of_findsNoDevice (none : FindsNoDevice s va n) : memRead s (trunc32 va) n = .memFault := by
  obtain ⟨pa, mapped, read, -⟩ := none.router
  simp only [memRead, if_neg (Nat.not_lt.2 small), mapped, read]

theorem memWrite_of_findsNoDevice {v : Dword} (none : FindsNoDevice s va n) :
    memWrite s (trunc32 va) n v = .memFault := by
  obtain ⟨pa, mapped, -, written⟩ := none.router
  simp only [memWrite, if_neg (Nat.not_lt.2 small), mapped, written]

theorem memRead_of_outsideBlock {a : Word} (outside : translate s.cfg a = .outsideBlock) :
    memRead s a n = .refused .translationOutsideBlock := by
  rw [memRead, if_neg (Nat.not_lt.2 small), outside]

theorem memWrite_of_outsideBlock {a : Word} {v : Dword} (outside : translate s.cfg a = .outsideBlock) :
    memWrite s a n v = .refused .translationOutsideBlock := by
  rw [memWrite, if_neg (Nat.not_lt.2 small), outside]

theorem memRead_of_refill {a : Word} {kind : RefillKind} (refill : translate s.cfg a = .refill kind) :
    memRead s a n = .refill kind := by
  rw [memRead, if_neg (Nat.not_lt.2 small), refill]

theorem memWrite_of_refill {a : Word} {v : Dword} {kind : RefillKind} (refill : translate s.cfg a = .refill kind) :
    memWrite s a n v = .refill kind := by
  rw [memWrite, if_neg (Nat.not_lt.2 small), refill]

theorem failsAt_of_readThen {store : Bool} {k : Dword → State → Answer}
    (run : exec i s = readThen store s (trunc32 va) n k) : FailsAt i s va n store :=
  ⟨fun none => run.trans (by rw [readThen, memRead_of_findsNoDevice small none]; rfl),
    fun outside => run.trans (by rw [readThen, memRead_of_outsideBlock small outside]),
    fun refill => run.trans (by rw [readThen, memRead_of_refill small refill]; rfl),
    fun refill => run.trans (by rw [readThen, memRead_of_refill small refill]; rfl)⟩

theorem failsAt_of_storeThen {v : Dword} {k : State → Answer}
    (run : exec i s = storeThen s s (trunc32 va) n v k) : FailsAt i s va n true :=
  ⟨fun none => run.trans (by rw [storeThen, memWrite_of_findsNoDevice small none]; rfl),
    fun outside => run.trans (by rw [storeThen, memWrite_of_outsideBlock small outside]),
    fun refill => run.trans (by rw [storeThen, memWrite_of_refill small refill]; rfl),
    fun refill => run.trans (by rw [storeThen, memWrite_of_refill small refill]; rfl)⟩

end

/-! ## The aligned datum of an unaligned access (R369) -/

/-- An address less its remainder is the address with the bits of the remainder cleared. -/
theorem trunc32_sub_remainder (va : Dword) (k : Nat) :
    trunc32 (va - BitVec.ofNat 64 (va.toNat % 2 ^ k)) = trunc32 va &&& trunc32 (~~~(BitVec.ofNat 64 (2 ^ k - 1))) := by
  have remainder : BitVec.ofNat 64 (va.toNat % 2 ^ k) = va &&& BitVec.ofNat 64 (2 ^ k - 1) := by
    rw [← Nat.and_two_pow_sub_one_eq_mod, BitVec.ofNat_and, BitVec.ofNat_toNat, BitVec.setWidth_eq]
  have apart (m : Dword) : va &&& ~~~m &&& (va &&& m) = 0#64 := by
    apply BitVec.eq_of_getLsbD_eq
    intro i hi
    simp only [BitVec.getLsbD_and, BitVec.getLsbD_not, BitVec.getLsbD_zero, hi, decide_true, Bool.true_and]
    cases va.getLsbD i <;> cases m.getLsbD i <;> rfl
  have split (m : Dword) : va - (va &&& m) = va &&& ~~~m := by
    rw [BitVec.sub_eq_iff_eq_add, BitVec.add_eq_or_of_and_eq_zero _ _ (apart m)]
    apply BitVec.eq_of_getLsbD_eq
    intro i hi
    simp only [BitVec.getLsbD_or, BitVec.getLsbD_and, BitVec.getLsbD_not, hi, decide_true, Bool.true_and]
    cases va.getLsbD i <;> cases m.getLsbD i <;> rfl
  rw [remainder, split, trunc32, BitVec.setWidth_and]

theorem wordBase_eq (va : Dword) : wordBase va = trunc32 (va - BitVec.ofNat 64 (va.toNat % 4)) :=
  (trunc32_sub_remainder va 2).symm

theorem dwordBase_eq (va : Dword) : dwordBase va = trunc32 (va - BitVec.ofNat 64 (va.toNat % 8)) :=
  (trunc32_sub_remainder va 3).symm

section
variable {store : Bool} {k : Dword → State → Answer}

theorem failsAt_of_wordDatum (run : exec i s = readThen store s (wordBase va) 4 k) :
    FailsAt i s (va - BitVec.ofNat 64 (va.toNat % 4)) 4 store :=
  failsAt_of_readThen (by decide) (wordBase_eq va ▸ run)

theorem failsAt_of_dwordDatum (run : exec i s = readThen store s (dwordBase va) 8 k) :
    FailsAt i s (va - BitVec.ofNat 64 (va.toNat % 8)) 8 store :=
  failsAt_of_readThen (by decide) (dwordBase_eq va ▸ run)

end

/-! ## Fetching (R98, R162, R163) -/

section
variable {u : State} {k : Word → State → Answer}

theorem fetchThen_of_misaligned (odd : u.pc.toNat % 4 ≠ 0) : fetchThen u k = raise (.addressErrorLoad u.pc) u :=
  if_pos fun low => odd (by simpa using congrArg BitVec.toNat low)

section
variable (even : u.pc.toNat % 4 = 0)
include even

theorem low_bits_of_aligned : ¬u.pc.extractLsb' 0 2 ≠ 0 :=
  not_not.2 (BitVec.eq_of_toNat_eq (by simpa using even))

theorem fetchThen_of_memFault (read : memRead u (trunc32 u.pc) 4 = .memFault) :
    fetchThen u k = raise .busErrorFetch u := by
  rw [fetchThen, if_neg (low_bits_of_aligned even), read]

theorem fetchThen_of_refill {kind : RefillKind} (read : memRead u (trunc32 u.pc) 4 = .refill kind) :
    fetchThen u k = raiseRefill kind false u := by
  rw [fetchThen, if_neg (low_bits_of_aligned even), read]

theorem fetchThen_of_refused {r : Refusal} (read : memRead u (trunc32 u.pc) 4 = .refused r) :
    fetchThen u k = .refused r := by
  rw [fetchThen, if_neg (low_bits_of_aligned even), read]

end

end

theorem step_of_mode {m : Mode} (mode : s.mode? = some m) : step s = afterTick s.tick := by
  rw [step, stepPhases, mode]

theorem step_of_nullified {m : Mode} (mode : s.mode? = some m) (slot : s.tick.bu.nullifyNext = true) :
    step s = .next s.tick.skipSlot := (step_of_mode mode).trans (if_pos slot)

section
variable {m : Mode} (mode : s.mode? = some m) (slot : s.tick.bu.nullifyNext = false)
include mode slot

theorem step_of_inject {word : Word} (injected : s.inject = some word) :
    step s = execDecoded (decode word) { s.tick with inject := none } := by
  rw [step_of_mode mode, afterTick, slot, tick_inject, injected]
  rfl

theorem step_of_fetch (none : s.inject = none) :
    step s = fetchThen s.tick fun w t => execDecoded (decode w) t := by
  rw [step_of_mode mode, afterTick, slot, tick_inject, none]
  rfl

end

end Sys2Proof.Machine

namespace Sys2Proof

open Machine

/-- Settles O46: the alignment rule decides before the access, whatever the instruction goes on to do. -/
theorem misalignedAccessesRaise : Obligations.MisalignedAccessesRaise := by
  intro s rt base o n wide trap op odd
  have load {i : Instr} {k : Dword → Dword → State → Answer} (run : exec i s = loadAligned n base o s k) :
      RaisesAt i s (.addressErrorLoad (dataAddress s wide base o)) (dataAddress s wide base o) :=
    run.trans (withAddress_of_misaligned op trap odd)
  have store {i : Instr} {v : Dword} (run : exec i s = storeAligned n v base o s) :
      RaisesAt i s (.addressErrorStore (dataAddress s wide base o)) (dataAddress s wide base o) :=
    run.trans (withAddress_of_misaligned op trap odd)
  have conditional {i : Instr} {v : Dword} (run : exec i s = storeConditional n v rt base o s) :
      RaisesAt i s (.addressErrorStore (dataAddress s wide base o)) (dataAddress s wide base o) :=
    run.trans (withAddress_of_misaligned op trap odd)
  simp only [List.mem_cons, Prod.mk.injEq, List.not_mem_nil, or_false]
  refine ⟨?_, ?_, fun w64 => ⟨?_, ?_⟩, fun cu1 => ⟨?_, ?_⟩⟩
  · rintro i (⟨rfl, rfl⟩ | ⟨rfl, rfl⟩ | ⟨rfl, rfl⟩ | ⟨rfl, rfl⟩) <;> exact load (by unfold exec; rfl)
  · rintro i (⟨rfl, rfl⟩ | ⟨rfl, rfl⟩ | ⟨rfl, rfl⟩)
    · exact store (by unfold exec; rfl)
    · exact store (by unfold exec; rfl)
    · exact conditional (by unfold exec; rfl)
  · rintro i (⟨rfl, rfl⟩ | ⟨rfl, rfl⟩ | ⟨rfl, rfl⟩) <;> exact load (gate64_of_wide (w64 ▸ op))
  · rintro i (⟨rfl, rfl⟩ | ⟨rfl, rfl⟩)
    · exact store (gate64_of_wide (w64 ▸ op))
    · exact conditional (gate64_of_wide (w64 ▸ op))
  · rintro i (⟨rfl, rfl⟩ | ⟨rfl, rfl⟩) <;> exact load (gateCop1_of_cu1 cu1)
  · rintro i (⟨rfl, rfl⟩ | ⟨rfl, rfl⟩)
    · exact store (gateCop1_of_cu1 cu1)
    · exact (gateCop1_of_cu1 cu1).trans (withAddress_of_misaligned op trap odd)

/-- Settles O47: each load and store is one access of the router, at its address or at its aligned datum, and what that
access answers is what the instruction does. -/
theorem accessesWithoutDeviceRaise : Obligations.AccessesWithoutDeviceRaise := by
  intro s rt base o n wide op
  simp only [List.mem_cons, Prod.mk.injEq, List.not_mem_nil, or_false]
  refine ⟨fun aligned => ?_, ?_, ?_, fun w64 => ⟨?_, ?_⟩⟩
  · have load {i : Instr} {k : Dword → Dword → State → Answer} (small : n ≤ scratchCapacity)
        (run : exec i s = loadAligned n base o s k) : FailsAt i s (dataAddress s wide base o) n false :=
      failsAt_of_readThen small (run.trans (withAddress_of_aligned op aligned))
    have store {i : Instr} {v : Dword} (small : n ≤ scratchCapacity)
        (run : exec i s = storeAligned n v base o s) : FailsAt i s (dataAddress s wide base o) n true :=
      failsAt_of_storeThen small (run.trans (withAddress_of_aligned op aligned))
    have conditional {i : Instr} {v : Dword} (small : n ≤ scratchCapacity) (link : s.llBit = true)
        (run : exec i s = storeConditional n v rt base o s) : FailsAt i s (dataAddress s wide base o) n true :=
      failsAt_of_storeThen small ((run.trans (withAddress_of_aligned op aligned)).trans (if_pos link))
    refine ⟨?_, ?_, ?_, fun w64 => ⟨?_, ?_⟩, fun cu1 => ⟨?_, ?_, ?_⟩⟩
    · rintro i (⟨rfl, rfl⟩ | ⟨rfl, rfl⟩ | ⟨rfl, rfl⟩ | ⟨rfl, rfl⟩ | ⟨rfl, rfl⟩ | ⟨rfl, rfl⟩) <;>
        exact load (by decide) (by unfold exec; rfl)
    · rintro i (⟨rfl, rfl⟩ | ⟨rfl, rfl⟩ | ⟨rfl, rfl⟩) <;> exact store (by decide) (by unfold exec; rfl)
    · rintro link rfl
      exact conditional (by decide) link (by unfold exec; rfl)
    · rintro i (⟨rfl, rfl⟩ | ⟨rfl, rfl⟩ | ⟨rfl, rfl⟩) <;> exact load (by decide) (gate64_of_wide (w64 ▸ op))
    · rintro rfl
      exact ⟨store (by decide) (gate64_of_wide (w64 ▸ op)),
        fun link => conditional (by decide) link (gate64_of_wide (w64 ▸ op))⟩
    · rintro i (⟨rfl, rfl⟩ | ⟨rfl, rfl⟩) <;> exact load (by decide) (gateCop1_of_cu1 cu1)
    · rintro rfl
      exact store (by decide) (gateCop1_of_cu1 cu1)
    · rintro rfl view
      exact failsAt_of_storeThen (by decide)
        (((gateCop1_of_cu1 cu1).trans (withAddress_of_aligned op aligned)).trans (gateDouble_of_view view))
  · rintro i (⟨rfl, rfl⟩ | ⟨rfl, rfl⟩) <;> exact failsAt_of_wordDatum (by unfold exec; exact withOp64_of_some op)
  · rintro i (⟨rfl, rfl⟩ | ⟨rfl, rfl⟩) <;> exact failsAt_of_wordDatum (by unfold exec; exact withOp64_of_some op)
  · rintro i (⟨rfl, rfl⟩ | ⟨rfl, rfl⟩) <;>
      exact failsAt_of_dwordDatum ((gate64_of_wide (w64 ▸ op)).trans (withOp64_of_some op))
  · rintro i (⟨rfl, rfl⟩ | ⟨rfl, rfl⟩) <;>
      exact failsAt_of_dwordDatum ((gate64_of_wide (w64 ▸ op)).trans (withOp64_of_some op))

/-- Settles O10: after the tick a Step skips its slot, runs the injected word, or fetches; and what the fetch's read
answers is what the Step does. -/
theorem injectedWordsNullifiedSlotsAndFailedFetches : Obligations.InjectedWordsNullifiedSlotsAndFailedFetches := by
  refine ⟨fun s m w mode slot injected => step_of_inject mode slot injected,
    fun s m mode slot => ⟨step_of_nullified mode slot, tick_inject s⟩, fun s m mode slot none => ?_⟩
  rw [step_of_fetch mode slot none, ← tick_cfg s]
  refine ⟨fetchThen_of_misaligned, fun even =>
    ⟨fun noDevice => ?_, fun outside => ?_, fun refill => ?_, fun refill => ?_⟩⟩
  · exact fetchThen_of_memFault even (memRead_of_findsNoDevice (by decide) noDevice)
  · exact fetchThen_of_refused even (memRead_of_outsideBlock (by decide) outside)
  · exact fetchThen_of_refill even (memRead_of_refill (by decide) refill)
  · exact fetchThen_of_refill even (memRead_of_refill (by decide) refill)

end Sys2Proof
end

section
/-! PROOF. The decoder, the encoder and the opcode table agree (R122 to R141): the encoding of an instruction decodes to
it, a word selects the row of what it decodes to and decodes to an instruction of the row it selects; and which words are
Reserved (R135). -/

namespace Sys2Proof

open Machine

/-! ## The map a word is decoded by (R127) -/

section
variable {w : Word}

theorem decode_of_special (op : opOf w = 0#6) : decode w = decodeSpecial w := by
  unfold decode
  rw [op]
  rfl

theorem decode_of_regimm (op : opOf w = 1#6) : decode w = decodeRegimm w := by
  unfold decode
  rw [op]
  rfl

theorem decode_of_cop0 (op : opOf w = 16#6) : decode w = decodeCop0 w := by
  unfold decode
  rw [op]
  rfl

theorem decode_of_cop1 (op : opOf w = 17#6) : decode w = decodeCop1 w := by
  unfold decode
  rw [op]
  rfl

end

/-- Settles O8: the decoder evaluated on each word. -/
theorem exampleWordsDecode : Obligations.ExampleWordsDecode := by
  unfold Obligations.ExampleWordsDecode
  decide

/-! ## Decoding an encoded instruction -/

/-- Settles O4: the fields of the encoding are the operands and the opcodes of the instruction's map, so each map reads
the instruction back. The cases are grouped by form (R123) and map (R128 to R133); the last group is the R-type part of
COP1. -/
theorem decodeOfEncodeIsTheInstruction : Obligations.DecodeOfEncodeIsTheInstruction := by
  intro i fits
  cases i
  case j | jal =>
    change decode (jForm ..) = _
    unfold decode
    rw [opOf_jForm, targetOf_jForm]
    rfl
  case cache =>
    change decode (iForm ..) = _
    unfold decode
    rw [opOf_iForm, rsOf_iForm, rtOf_iForm, immOf_iForm, BitVec.toNat_ofNat,
      Nat.mod_eq_of_lt (of_decide_eq_true fits)]
    rfl
  case beq | bne | blez | bgtz | addi | addiu | slti | sltiu | andi | ori | xori | lui | beql | bnel | blezl | bgtzl |
      daddi | daddiu | ldl | ldr | lb | lh | lwl | lw | lbu | lhu | lwr | lwu | sb | sh | swl | sw | sdl | sdr | swr |
      ll | lwc1 | lld | ldc1 | ld | sc | swc1 | scd | sdc1 | sd =>
    change decode (iForm ..) = _
    unfold decode
    rw [opOf_iForm, rsOf_iForm, rtOf_iForm, immOf_iForm]
    rfl
  case bltz | bgez | bltzl | bgezl | tgei | tgeiu | tlti | tltiu | teqi | tnei | bltzal | bgezal | bltzall | bgezall =>
    refine (decode_of_regimm (opOf_iForm ..)).trans ?_
    unfold decodeRegimm
    rw [rsOf_iForm, rtOf_iForm, immOf_iForm]
    rfl
  case bc1f | bc1t | bc1fl | bc1tl =>
    refine (decode_of_cop1 (opOf_iForm ..)).trans ?_
    unfold decodeCop1 decodeBc1
    rw [rsOf_iForm, rtOf_iForm, immOf_iForm]
    rfl
  case syscall | brk =>
    refine (decode_of_special (opOf_codeForm ..)).trans ?_
    unfold decodeSpecial
    rw [functOf_codeForm, codeOf_codeForm, BitVec.toNat_ofNat, Nat.mod_eq_of_lt (of_decide_eq_true fits)]
    rfl
  case tge | tgeu | tlt | tltu | teq | tne =>
    refine (decode_of_special (opOf_trapForm ..)).trans ?_
    unfold decodeSpecial
    rw [functOf_trapForm, rsOf_trapForm, rtOf_trapForm, trapCodeOf_trapForm, BitVec.toNat_ofNat,
      Nat.mod_eq_of_lt (of_decide_eq_true fits)]
    rfl
  case sll | srl | sra | sllv | srlv | srav | jr | jalr | sync | mfhi | mthi | mflo | mtlo | dsllv | dsrlv | dsrav |
      mult | multu | div | divu | dmult | dmultu | ddiv | ddivu | add | addu | sub | subu | and | or | xor | nor | slt |
      sltu | dadd | daddu | dsub | dsubu | dsll | dsrl | dsra | dsll32 | dsrl32 | dsra32 =>
    refine (decode_of_special (opOf_rForm ..)).trans ?_
    unfold decodeSpecial
    rw [rsOf_rForm, rtOf_rForm, rdOf_rForm, saOf_rForm, functOf_rForm]
    rfl
  case mfc0 | dmfc0 | mtc0 | dmtc0 | tlbr | tlbwi | tlbwr | tlbp | eret =>
    refine (decode_of_cop0 (opOf_rForm ..)).trans ?_
    unfold decodeCop0 decodeCop0Function decodeCop0Move
    rw [bit25_rForm, rsOf_rForm, rtOf_rForm, rdOf_rForm, functOf_rForm]
    rfl
  all_goals
    refine (decode_of_cop1 (opOf_rForm ..)).trans ?_
    unfold decodeCop1 decodeCop1S decodeCop1D decodeCop1W decodeCop1L
    rw [rsOf_rForm, rtOf_rForm, rdOf_rForm, saOf_rForm, functOf_rForm]
    rfl

/-! ## The fields of a word (R122, R123) -/

section
variable (w v : Word)

theorem eq_rForm_of_fields : w = rForm (opOf w) (rsOf w) (rtOf w) (rdOf w) (saOf w) (functOf w) := by
  unfold opOf rsOf rtOf rdOf saOf functOf rForm
  iterate 5 rw [BitVec.extractLsb'_append_extractLsb'_eq_extractLsb' (by rfl)]
  exact BitVec.extractLsb'_eq_self.symm

theorem eq_iff_fields : w = v ↔ opOf w = opOf v ∧ rsOf w = rsOf v ∧ rtOf w = rtOf v ∧ rdOf w = rdOf v ∧
    saOf w = saOf v ∧ functOf w = functOf v := by
  refine ⟨by rintro rfl; simp only [and_self], fun ⟨op, rs, rt, rd, sa, funct⟩ => ?_⟩
  rw [eq_rForm_of_fields w, eq_rForm_of_fields v, op, rs, rt, rd, sa, funct]

@[simp] theorem opOf_and : opOf (w &&& v) = opOf w &&& opOf v := BitVec.extractLsb'_and
@[simp] theorem rsOf_and : rsOf (w &&& v) = rsOf w &&& rsOf v := BitVec.extractLsb'_and
@[simp] theorem rtOf_and : rtOf (w &&& v) = rtOf w &&& rtOf v := BitVec.extractLsb'_and
@[simp] theorem rdOf_and : rdOf (w &&& v) = rdOf w &&& rdOf v := BitVec.extractLsb'_and
@[simp] theorem saOf_and : saOf (w &&& v) = saOf w &&& saOf v := BitVec.extractLsb'_and
@[simp] theorem functOf_and : functOf (w &&& v) = functOf w &&& functOf v := BitVec.extractLsb'_and

/-- Bit 25, which selects the map of COP0, is the top bit of `rs` (R131). -/
theorem bit25_eq_rsOf : w.getLsbD 25 = (rsOf w).getLsbD 4 := by
  simp [rsOf]

theorem rsOf_and_top_eq_iff : rsOf w &&& 16#5 = rsOf v &&& 16#5 ↔ w.getLsbD 25 = v.getLsbD 25 := by
  rw [bit25_eq_rsOf, bit25_eq_rsOf]
  generalize rsOf w = a, rsOf v = b
  revert a b
  decide

end

/-! ## The rows of the opcode table (R141): one lemma for each mask, the fields it fixes -/

section
variable {i : Instr} {w m : Word}

/-- A word selects a row when it has the match bits in each field of the mask. -/
theorem selects_iff_fields (op rs rt rd sa funct) (row : i.row = (rForm op rs rt rd sa funct, m))
    (fits : m &&& rForm op rs rt rd sa funct = m) :
    w &&& i.row.1 = i.row.2 ↔
      opOf w &&& op = opOf m &&& op ∧ rsOf w &&& rs = rsOf m &&& rs ∧ rtOf w &&& rt = rtOf m &&& rt ∧
      rdOf w &&& rd = rdOf m &&& rd ∧ saOf w &&& sa = saOf m &&& sa ∧ functOf w &&& funct = functOf m &&& funct := by
  rw [row]
  conv_lhs => rw [← fits, eq_iff_fields]
  simp

theorem selects_iff_op (row : i.row = (0xFC000000#32, m)) (fits : m &&& 0xFC000000#32 = m) :
    w &&& i.row.1 = i.row.2 ↔ opOf w = opOf m :=
  (selects_iff_fields (.allOnes 6) 0#5 0#5 0#5 0#5 0#6 row fits).trans <| by
    simp only [BitVec.and_allOnes, BitVec.and_zero, and_true]

theorem selects_iff_op_funct (row : i.row = (0xFC00003F#32, m)) (fits : m &&& 0xFC00003F#32 = m) :
    w &&& i.row.1 = i.row.2 ↔ opOf w = opOf m ∧ functOf w = functOf m :=
  (selects_iff_fields (.allOnes 6) 0#5 0#5 0#5 0#5 (.allOnes 6) row fits).trans <| by
    simp only [BitVec.and_allOnes, BitVec.and_zero, true_and]

theorem selects_iff_op_rs (row : i.row = (0xFFE00000#32, m)) (fits : m &&& 0xFFE00000#32 = m) :
    w &&& i.row.1 = i.row.2 ↔ opOf w = opOf m ∧ rsOf w = rsOf m :=
  (selects_iff_fields (.allOnes 6) (.allOnes 5) 0#5 0#5 0#5 0#6 row fits).trans <| by
    simp only [BitVec.and_allOnes, BitVec.and_zero, and_true]

theorem selects_iff_op_rt (row : i.row = (0xFC1F0000#32, m)) (fits : m &&& 0xFC1F0000#32 = m) :
    w &&& i.row.1 = i.row.2 ↔ opOf w = opOf m ∧ rtOf w = rtOf m :=
  (selects_iff_fields (.allOnes 6) 0#5 (.allOnes 5) 0#5 0#5 0#6 row fits).trans <| by
    simp only [BitVec.and_allOnes, BitVec.and_zero, and_true, true_and]

theorem selects_iff_op_rs_rt (row : i.row = (0xFFFF0000#32, m)) (fits : m &&& 0xFFFF0000#32 = m) :
    w &&& i.row.1 = i.row.2 ↔ opOf w = opOf m ∧ rsOf w = rsOf m ∧ rtOf w = rtOf m :=
  (selects_iff_fields (.allOnes 6) (.allOnes 5) (.allOnes 5) 0#5 0#5 0#6 row fits).trans <| by
    simp only [BitVec.and_allOnes, BitVec.and_zero, and_true]

theorem selects_iff_op_rs_funct (row : i.row = (0xFFE0003F#32, m)) (fits : m &&& 0xFFE0003F#32 = m) :
    w &&& i.row.1 = i.row.2 ↔ opOf w = opOf m ∧ rsOf w = rsOf m ∧ functOf w = functOf m :=
  (selects_iff_fields (.allOnes 6) (.allOnes 5) 0#5 0#5 0#5 (.allOnes 6) row fits).trans <| by
    simp only [BitVec.and_allOnes, BitVec.and_zero, true_and]

theorem selects_iff_op_bit25_funct (row : i.row = (0xFE00003F#32, m)) (fits : m &&& 0xFE00003F#32 = m) :
    w &&& i.row.1 = i.row.2 ↔ opOf w = opOf m ∧ w.getLsbD 25 = m.getLsbD 25 ∧ functOf w = functOf m :=
  (selects_iff_fields (.allOnes 6) 16#5 0#5 0#5 0#5 (.allOnes 6) row fits).trans <| by
    simp only [BitVec.and_allOnes, BitVec.and_zero, true_and, rsOf_and_top_eq_iff]

end

/-! ## A word selects the row of what it decodes to (R125, R141) -/

/-- `w` selects the row of `i`, and `i` fits its word. -/
def OnRow (w : Word) (i : Instr) : Prop := w &&& i.row.1 = i.row.2 ∧ i.wellFormed = true

/-- The maps of the floating-point functions, each with its format (R133). -/
def formatMaps : List (BitVec 5 × (Word → Decoded)) :=
  [(16, decodeCop1S), (17, decodeCop1D), (20, decodeCop1W), (21, decodeCop1L)]

section
variable {w : Word} {i : Instr}

theorem onRow_of_decodeSpecial (op : opOf w = 0#6) (h : decodeSpecial w = .instr i) : OnRow w i := by
  unfold decodeSpecial at h
  split at h <;> cases h
  all_goals
    rename_i funct
    refine ⟨Iff.mpr (selects_iff_op_funct rfl rfl) ⟨op, funct⟩, ?_⟩
    simp only [Instr.wellFormed, BitVec.isLt, decide_true]

theorem onRow_of_decodeRegimm (op : opOf w = 1#6) (h : decodeRegimm w = .instr i) : OnRow w i := by
  unfold decodeRegimm at h
  split at h <;> cases h
  all_goals
    rename_i rt
    exact ⟨Iff.mpr (selects_iff_op_rt rfl rfl) ⟨op, rt⟩, rfl⟩

theorem onRow_of_decodeCop0 (op : opOf w = 16#6) (h : decodeCop0 w = .instr i) : OnRow w i := by
  unfold decodeCop0 at h
  split at h
  case isTrue bit =>
    unfold decodeCop0Function at h
    split at h <;> cases h
    all_goals
      rename_i funct
      exact ⟨Iff.mpr (selects_iff_op_bit25_funct rfl rfl) ⟨op, bit, funct⟩, rfl⟩
  case isFalse =>
    unfold decodeCop0Move at h
    split at h <;> cases h
    all_goals
      rename_i rs
      exact ⟨Iff.mpr (selects_iff_op_rs rfl rfl) ⟨op, rs⟩, rfl⟩

theorem onRow_of_decodeBc1 (op : opOf w = 17#6) (rs : rsOf w = 8#5) (h : decodeBc1 w = .instr i) : OnRow w i := by
  unfold decodeBc1 at h
  split at h <;> cases h
  all_goals
    rename_i rt
    exact ⟨Iff.mpr (selects_iff_op_rs_rt rfl rfl) ⟨op, rs, rt⟩, rfl⟩

theorem onRow_of_formatMap {fmt : BitVec 5} {map : Word → Decoded} (known : (fmt, map) ∈ formatMaps)
    (op : opOf w = 17#6) (rs : rsOf w = fmt) (h : map w = .instr i) : OnRow w i := by
  simp only [formatMaps, List.mem_cons, Prod.mk.injEq, List.not_mem_nil, or_false] at known
  rcases known with ⟨rfl, rfl⟩ | ⟨rfl, rfl⟩ | ⟨rfl, rfl⟩ | ⟨rfl, rfl⟩ <;>
    [unfold decodeCop1S at h; unfold decodeCop1D at h; unfold decodeCop1W at h; unfold decodeCop1L at h]
  all_goals split at h <;> cases h
  all_goals
    rename_i funct
    exact ⟨Iff.mpr (selects_iff_op_rs_funct rfl rfl) ⟨op, rs, funct⟩, rfl⟩

theorem onRow_of_decodeCop1 (op : opOf w = 17#6) (h : decodeCop1 w = .instr i) : OnRow w i := by
  unfold decodeCop1 at h
  split at h
  case h_7 rs => exact onRow_of_decodeBc1 op rs h
  case h_8 rs | h_9 rs | h_10 rs | h_11 rs => exact onRow_of_formatMap (by simp [formatMaps]) op rs h
  all_goals cases h
  all_goals
    rename_i rs
    exact ⟨Iff.mpr (selects_iff_op_rs rfl rfl) ⟨op, rs⟩, rfl⟩

theorem onRow_of_decode (h : decode w = .instr i) : OnRow w i := by
  unfold decode at h
  split at h
  case h_1 op => exact onRow_of_decodeSpecial op h
  case h_2 op => exact onRow_of_decodeRegimm op h
  case h_3 op => exact onRow_of_decodeCop0 op h
  case h_4 op => exact onRow_of_decodeCop1 op h
  all_goals cases h
  all_goals
    rename_i op
    refine ⟨Iff.mpr (selects_iff_op rfl rfl) op, ?_⟩
    simp only [Instr.wellFormed, BitVec.isLt, decide_true]

end

/-! ## A word decodes to an instruction of the row it selects (R141) -/

/-- A row fixes the fields by which the maps choose, and so the instruction but for its operands. The cases are grouped
by map and mask; the last group is the floating-point functions. -/
theorem exists_decode_of_selects {w : Word} {i : Instr} (selects : w &&& i.row.1 = i.row.2) :
    ∃ j, decode w = .instr j ∧ j.row = i.row := by
  cases i
  case j | jal | cache | beq | bne | blez | bgtz | addi | addiu | slti | sltiu | andi | ori | xori | lui | beql | bnel |
      blezl | bgtzl | daddi | daddiu | ldl | ldr | lb | lh | lwl | lw | lbu | lhu | lwr | lwu | sb | sh | swl | sw |
      sdl | sdr | swr | ll | lwc1 | lld | ldc1 | ld | sc | swc1 | scd | sdc1 | sd =>
    have op := Iff.mp (selects_iff_op rfl rfl) selects
    unfold decode
    rw [op]
    exact ⟨_, rfl, rfl⟩
  case sll | srl | sra | sllv | srlv | srav | jr | jalr | syscall | brk | sync | mfhi | mthi | mflo | mtlo | dsllv |
      dsrlv | dsrav | mult | multu | div | divu | dmult | dmultu | ddiv | ddivu | add | addu | sub | subu | and | or |
      xor | nor | slt | sltu | dadd | daddu | dsub | dsubu | tge | tgeu | tlt | tltu | teq | tne | dsll | dsrl | dsra |
      dsll32 | dsrl32 | dsra32 =>
    obtain ⟨op, funct⟩ := Iff.mp (selects_iff_op_funct rfl rfl) selects
    rw [decode_of_special op]
    unfold decodeSpecial
    rw [funct]
    exact ⟨_, rfl, rfl⟩
  case bltz | bgez | bltzl | bgezl | tgei | tgeiu | tlti | tltiu | teqi | tnei | bltzal | bgezal | bltzall | bgezall =>
    obtain ⟨op, rt⟩ := Iff.mp (selects_iff_op_rt rfl rfl) selects
    rw [decode_of_regimm op]
    unfold decodeRegimm
    rw [rt]
    exact ⟨_, rfl, rfl⟩
  case mfc0 | dmfc0 | mtc0 | dmtc0 =>
    obtain ⟨op, rs⟩ := Iff.mp (selects_iff_op_rs rfl rfl) selects
    rw [decode_of_cop0 op]
    unfold decodeCop0 decodeCop0Move
    rw [bit25_eq_rsOf, rs]
    exact ⟨_, rfl, rfl⟩
  case tlbr | tlbwi | tlbwr | tlbp | eret =>
    obtain ⟨op, bit, funct⟩ := Iff.mp (selects_iff_op_bit25_funct rfl rfl) selects
    rw [decode_of_cop0 op]
    unfold decodeCop0 decodeCop0Function
    rw [bit, funct]
    exact ⟨_, rfl, rfl⟩
  case mfc1 | dmfc1 | cfc1 | mtc1 | dmtc1 | ctc1 =>
    obtain ⟨op, rs⟩ := Iff.mp (selects_iff_op_rs rfl rfl) selects
    rw [decode_of_cop1 op]
    unfold decodeCop1
    rw [rs]
    exact ⟨_, rfl, rfl⟩
  case bc1f | bc1t | bc1fl | bc1tl =>
    obtain ⟨op, rs, rt⟩ := Iff.mp (selects_iff_op_rs_rt rfl rfl) selects
    rw [decode_of_cop1 op]
    unfold decodeCop1 decodeBc1
    rw [rs, rt]
    exact ⟨_, rfl, rfl⟩
  all_goals
    obtain ⟨op, rs, funct⟩ := Iff.mp (selects_iff_op_rs_funct rfl rfl) selects
    rw [decode_of_cop1 op]
    unfold decodeCop1 decodeCop1S decodeCop1D decodeCop1W decodeCop1L
    rw [rs, funct]
    exact ⟨_, rfl, rfl⟩

/-- Settles O5: each map of the decoder fixes the fields that the mask of its rows names, and only those. -/
theorem wordSelectsTheRowItDecodesTo : Obligations.WordSelectsTheRowItDecodesTo :=
  fun _ => ⟨fun _ => onRow_of_decode, fun _ => exists_decode_of_selects⟩

/-! ## The words that decode to Reserved (R135) -/

/-- Two properties of a field are the same when they agree on each of its values. -/
theorem iff_of_values {k : Nat} {p q : BitVec k → Prop} [DecidablePred p] [DecidablePred q]
    (values : (List.range (2 ^ k)).map (fun n => decide (p (.ofNat k n))) =
      (List.range (2 ^ k)).map fun n => decide (q (.ofNat k n))) (f : BitVec k) : p f ↔ q f := by
  have agree := List.map_inj_left.mp values f.toNat (List.mem_range.mpr f.isLt)
  simpa using agree

section
variable (w : Word)

theorem decodeSpecial_eq_reserved_iff : decodeSpecial w = .reserved ↔
    (functOf w).toNat ∈ [1, 5, 10, 11, 14, 21, 40, 41, 53, 55, 57, 61] := by
  unfold decodeSpecial
  generalize functOf w = funct
  revert funct
  apply iff_of_values
  rfl

theorem decodeRegimm_eq_reserved_iff : decodeRegimm w = .reserved ↔
    (rtOf w).toNat ∈ [4, 5, 6, 7, 13, 15, 20, 21, 22, 23, 24, 25, 26, 27, 28, 29, 30, 31] := by
  unfold decodeRegimm
  generalize rtOf w = rt
  revert rt
  apply iff_of_values
  rfl

theorem decodeCop0Move_eq_reserved_iff (bit : w.getLsbD 25 = false) : decodeCop0Move w = .reserved ↔
    (rsOf w).toNat ∈ [2, 3, 6, 7, 8, 9, 10, 11, 12, 13, 14, 15] := by
  revert bit
  rw [bit25_eq_rsOf, ← and_congr_right_iff]
  unfold decodeCop0Move
  generalize rsOf w = rs
  revert rs
  apply iff_of_values
  rfl

theorem decodeCop0Function_eq_reserved_iff : decodeCop0Function w = .reserved ↔
    (functOf w).toNat ∉ [1, 2, 6, 8, 24] := by
  unfold decodeCop0Function
  generalize functOf w = funct
  revert funct
  apply iff_of_values
  rfl

theorem decodeCop0_eq_reserved_iff : decodeCop0 w = .reserved ↔
    (w.getLsbD 25 = false ∧ (rsOf w).toNat ∈ [2, 3, 6, 7, 8, 9, 10, 11, 12, 13, 14, 15]) ∨
    (w.getLsbD 25 = true ∧ (functOf w).toNat ∉ [1, 2, 6, 8, 24]) := by
  unfold decodeCop0
  cases bit : w.getLsbD 25
  · simp only [Bool.false_eq_true, if_false, true_and, false_and, or_false, decodeCop0Move_eq_reserved_iff w bit]
  · simp only [Bool.true_eq_false, if_true, true_and, false_and, false_or, decodeCop0Function_eq_reserved_iff]

theorem decodeBc1_eq_reserved_iff : decodeBc1 w = .reserved ↔ 4 ≤ (rtOf w).toNat := by
  unfold decodeBc1
  generalize rtOf w = rt
  revert rt
  apply iff_of_values
  rfl

/-- The function of a format is Reserved in every format or in none (R133, R135). -/
theorem formatMap_eq_reserved_iff {fmt : BitVec 5} {map : Word → Decoded} (known : (fmt, map) ∈ formatMaps) :
    map w = .reserved ↔ (16 ≤ (functOf w).toNat ∧ (functOf w).toNat ≤ 31) ∨ (functOf w).toNat ∈ [34, 35] ∨
      (38 ≤ (functOf w).toNat ∧ (functOf w).toNat ≤ 47) := by
  simp only [formatMaps, List.mem_cons, Prod.mk.injEq, List.not_mem_nil, or_false] at known
  rcases known with ⟨-, rfl⟩ | ⟨-, rfl⟩ | ⟨-, rfl⟩ | ⟨-, rfl⟩ <;>
    [unfold decodeCop1S; unfold decodeCop1D; unfold decodeCop1W; unfold decodeCop1L]
  all_goals
    generalize functOf w = funct
    revert funct
    apply iff_of_values
    rfl

theorem decodeCop1_eq_reserved_iff : decodeCop1 w = .reserved ↔
    (rsOf w).toNat ∈ [3, 7, 9, 10, 11, 12, 13, 14, 15, 18, 19, 22, 23, 24, 25, 26, 27, 28, 29, 30, 31] ∨
    (rsOf w = 8 ∧ 4 ≤ (rtOf w).toNat) ∨
    ((rsOf w).toNat ∈ [16, 17, 20, 21] ∧ ((16 ≤ (functOf w).toNat ∧ (functOf w).toNat ≤ 31) ∨
      (functOf w).toNat ∈ [34, 35] ∨ (38 ≤ (functOf w).toNat ∧ (functOf w).toNat ≤ 47))) := by
  have byRs : decodeCop1 w = .reserved ↔
      if rsOf w = 8#5 then decodeBc1 w = .reserved
      else if rsOf w = 16#5 then decodeCop1S w = .reserved
      else if rsOf w = 17#5 then decodeCop1D w = .reserved
      else if rsOf w = 20#5 then decodeCop1W w = .reserved
      else if rsOf w = 21#5 then decodeCop1L w = .reserved
      else (rsOf w).toNat ∈
        [3, 7, 9, 10, 11, 12, 13, 14, 15, 18, 19, 22, 23, 24, 25, 26, 27, 28, 29, 30, 31] := by
    unfold decodeCop1
    generalize rsOf w = rs
    revert rs
    apply iff_of_values
    rfl
  rw [byRs, decodeBc1_eq_reserved_iff, formatMap_eq_reserved_iff w (.head _),
    formatMap_eq_reserved_iff w (.tail _ (.head _)), formatMap_eq_reserved_iff w (.tail _ (.tail _ (.head _))),
    formatMap_eq_reserved_iff w (.tail _ (.tail _ (.tail _ (.head _))))]
  split_ifs with bc1 s d word long
  · simp [bc1]
  · simp [s]
  · simp [d]
  · simp [word]
  · simp [long]
  · simp_all [← BitVec.toNat_inj]

theorem decode_eq_reserved_iff : decode w = .reserved ↔
    (opOf w).toNat ∈ [19, 28, 29, 30, 31, 50, 51, 54, 58, 59, 62] ∨ (opOf w = 0 ∧ decodeSpecial w = .reserved) ∨
    (opOf w = 1 ∧ decodeRegimm w = .reserved) ∨ (opOf w = 16 ∧ decodeCop0 w = .reserved) ∨
    (opOf w = 17 ∧ decodeCop1 w = .reserved) := by
  have byOp : decode w = .reserved ↔
      if opOf w = 0#6 then decodeSpecial w = .reserved
      else if opOf w = 1#6 then decodeRegimm w = .reserved
      else if opOf w = 16#6 then decodeCop0 w = .reserved
      else if opOf w = 17#6 then decodeCop1 w = .reserved
      else (opOf w).toNat ∈ [19, 28, 29, 30, 31, 50, 51, 54, 58, 59, 62] := by
    unfold decode
    generalize opOf w = op
    revert op
    apply iff_of_values
    rfl
  rw [byOp]
  split_ifs with special regimm cop0 cop1
  · simp [special]
  · simp [regimm]
  · simp [cop0]
  · simp [cop1]
  · simp [special, regimm, cop0, cop1]

end

/-- Settles O6: the empty cells of each map, collected; running Reserved is the raise alone. -/
theorem reservedEncodings : Obligations.ReservedEncodings := by
  refine ⟨fun w => ?_, fun s => rfl⟩
  rw [decode_eq_reserved_iff, decodeSpecial_eq_reserved_iff, decodeRegimm_eq_reserved_iff,
    decodeCop0_eq_reserved_iff, decodeCop1_eq_reserved_iff]
  simp only [and_or_left, or_assoc]

end Sys2Proof
end

section
/-! PROOF. The order of what decides a Step: the fetched word (R163, R164), the gates every instruction goes through
before its own meaning (R165, R166, R172), the raise, which has no other effect (R167), and the tick that dispatches
what was raised (R507, R511). -/

namespace Sys2Proof.Machine

variable {s t : State} {d : Decoded} {i : Instr} {k : Answer} {e : Exc} {ev : Event}

/-! ## Running the fetched word (R163, R164) -/

theorem fetchThen_of_ok {f : Word → State → Answer} {v : Dword} (even : s.pc.toNat % 4 = 0)
    (read : memRead s (trunc32 s.pc) 4 = .ok v t) : fetchThen s f = f (trunc32 v) t := by
  rw [fetchThen, if_neg (low_bits_of_aligned even), read]

/-! ## Gates that stop an instruction (R165, R166, R172) -/

theorem gate64_of_narrow (narrow : s.op64? = some false) : gate64 s k = raise .reservedInstruction s := by
  rw [gate64, withOp64_of_some narrow]
  rfl

theorem gateCop0_of_unusable (cu0 : s.cu0 = false) (mode : s.mode? = some .supervisor ∨ s.mode? = some .user) :
    gateCop0 s k = raise (.coprocessorUnusable 0) s := by
  unfold gateCop0
  rcases mode with mode | mode <;> rw [cu0, mode] <;> rfl

theorem gateCop1_of_unusable (cu1 : s.cu1 = false) : gateCop1 s k = raise (.coprocessorUnusable 1) s :=
  if_neg (by rw [cu1]; decide)

theorem outsideDelaySlot_of_pending (pending : s.bu.branchDelayPending = true) :
    outsideDelaySlot s k = .refused .controlTransferInDelaySlot := if_pos pending

/-! ## The gates of an instruction, in their order -/

/-- The gate of a flagged instruction; an instruction without the flag has none. -/
def gateWhen (flag : Bool) (gate : Answer → Answer) (k : Answer) : Answer := if flag then gate k else k

theorem gateWhen_of_flag {flag : Bool} {gate : Answer → Answer} (flagged : flag = true) :
    gateWhen flag gate k = gate k := if_pos flagged

theorem gateWhen_of_passes {flag : Bool} {gate : Answer → Answer} (passes : flag = true → gate k = k) :
    gateWhen flag gate k = k := by
  unfold gateWhen
  split
  · exact passes ‹_›
  · rfl

/-- Everything checked before an instruction's own meaning `k`: the reserved-instruction gate, the gate of its
coprocessor, and that no control transfer stands in a delay slot (log 11). -/
def throughGates (i : Instr) (s : State) (k : Answer) : Answer :=
  gateWhen i.reserved32 (gate64 s) <| gateWhen i.usesCop0 (gateCop0 s) <| gateWhen i.usesCop1 (gateCop1 s) <|
    gateWhen i.isTransfer (outsideDelaySlot s) k

/-- Every instruction goes through its gates first; each arm of `exec` is written in that order. -/
theorem exec_throughGates (i : Instr) (s : State) : ∃ k, exec i s = throughGates i s k := by
  cases i <;> exact ⟨_, rfl⟩

theorem reserved32_of_isTransfer (transfer : i.isTransfer = true) : i.reserved32 = false := by
  have disjoint : (i.isTransfer && i.reserved32) = false := by cases i <;> rfl
  rwa [transfer, Bool.true_and] at disjoint

/-! ## The gated instructions by their encodings (R136, R166)

Each instruction is encoded in one of the forms of R123, and the laws of the forms read its fields back. -/

theorem usesCop0_iff_encode (i : Instr) : i.usesCop0 = true ↔ opOf (encode i) = 16 ∨ opOf (encode i) = 47 := by
  cases i <;> simp [Instr.usesCop0, encode]

theorem usesCop1_iff_encode (i : Instr) :
    i.usesCop1 = true ↔ opOf (encode i) = 17 ∨ (opOf (encode i)).toNat ∈ [49, 53, 57, 61] := by
  cases i <;> simp [Instr.usesCop1, encode]

/-- No opcode belongs to both coprocessors. -/
theorem usesCop0_of_usesCop1 (cop1 : i.usesCop1 = true) : i.usesCop0 = false := by
  rw [← Bool.not_eq_true, usesCop0_iff_encode]
  rw [usesCop1_iff_encode] at cop1
  generalize opOf (encode i) = op at cop1 ⊢
  revert op
  decide

section
variable {w : Word}

theorem and_opMask_eq_iff (op : BitVec 6) : w &&& 0xFC000000#32 = rForm op 0 0 0 0 0 ↔ opOf w = op := by
  rw [show 0xFC000000#32 = rForm (.allOnes 6) 0 0 0 0 0 from rfl, eq_iff_fields]
  simp [-BitVec.reduceAllOnes]

theorem and_opRsMask_eq_iff (p : BitVec 6 × Reg) :
    w &&& 0xFFE00000#32 = rForm p.1 p.2 0 0 0 0 ↔ (opOf w, rsOf w) = p := by
  rw [show 0xFFE00000#32 = rForm (.allOnes 6) (.allOnes 5) 0 0 0 0 from rfl, eq_iff_fields]
  simp [-BitVec.reduceAllOnes, Prod.ext_iff]

/-- A word masked to its opcode is one of the words of a list of opcodes. -/
theorem and_opMask_mem_iff (ops : List (BitVec 6)) :
    w &&& 0xFC000000#32 ∈ ops.map (rForm · 0 0 0 0 0) ↔ opOf w ∈ ops := by
  simp only [List.mem_map, eq_comm (b := w &&& _), and_opMask_eq_iff, exists_eq_right']

/-- A word masked to its opcode and `rs` is one of the words of a list of such pairs. -/
theorem and_opRsMask_mem_iff (pairs : List (BitVec 6 × Reg)) :
    w &&& 0xFFE00000#32 ∈ pairs.map (fun p => rForm p.1 p.2 0 0 0 0) ↔ (opOf w, rsOf w) ∈ pairs := by
  simp only [List.mem_map, eq_comm (b := w &&& _), and_opRsMask_eq_iff, exists_eq_right']

end

/-- The flagged instructions by the fields of the maps they stand in: an opcode of their own, a function of SPECIAL, the
doubleword moves of COP0 and COP1. -/
theorem reserved32_iff_fields (i : Instr) : i.reserved32 = true ↔
    opOf (encode i) ∈ [24, 25, 26, 27, 39, 44, 45, 52, 55, 60, 63] ∨
    (opOf (encode i) = 0 ∧ (functOf (encode i)).toNat ∈
      [20, 22, 23, 28, 29, 30, 31, 44, 45, 46, 47, 56, 58, 59, 60, 62, 63]) ∨
    (opOf (encode i), rsOf (encode i)) ∈ [(16, 1), (16, 5), (17, 1), (17, 5)] := by
  cases i <;> simp [Instr.reserved32, encode]

/-! ## A raise has no other effect (R167, R482) -/

/-- What is pending changes only by a raise and by a requested refill. -/
theorem Effect.pending_cases (h : Effect s d t) : t.pending = s.pending ∨ (∃ e, t = s.recordException e) ∨
    (∃ c, t = State.recordException { s with fcr31 := withCause s.fcr31 c } .floatingPoint) ∨
    ∃ store, t = s.requestXtlb store := by
  cases h with
  | raised e => exact .inr (.inl ⟨e, rfl⟩)
  | raisedFloatingPoint c => exact .inr (.inr (.inl ⟨c, rfl⟩))
  | refillRequested _ store => exact .inr (.inr (.inr ⟨store, rfl⟩))
  | register drawn | fpBank drawn | linked _ drawn => rcases drawn with rfl | rfl <;> exact .inl rfl
  | jumped _ linked => rcases linked with rfl | ⟨_, rfl⟩ <;> exact .inl rfl
  | branched => rw [branchEffect_eq]; exact .inl rfl
  | completed | hiLo | hi | lo | cop0 | fpControl | fpResult | fpCompared | stored | storedConditionally | returned =>
    exact .inl rfl

/-- FCR31 after an exception is recorded: its Cause field may be written by FloatingPoint, and by nothing else. -/
def Fcr31AfterRaise (e : Exc) (old new : Word) : Prop :=
  (e = .floatingPoint → Fcr31Kept old new true) ∧ (e ≠ .floatingPoint → new = old)

theorem fcr31AfterRaise_refl (e : Exc) (f : Word) : Fcr31AfterRaise e f f := ⟨fun _ _ _ _ => rfl, fun _ => rfl⟩

theorem fcr31AfterRaise_withCause (f : Word) (c : BitVec 6) : Fcr31AfterRaise .floatingPoint f (withCause f c) :=
  ⟨fun _ k outside _ => by rw [withCause_getLsbD, if_neg (by omega)], fun other => absurd rfl other⟩

/-- Where no exception was pending, one that is pending afterwards was recorded, and nothing else happened. -/
theorem Effect.recorded (h : Effect s d t) (clear : s.pending.sync = none) (raised : t.pending.sync = some e) :
    ∃ f, t = State.recordException { s with fcr31 := f } e ∧ Fcr31AfterRaise e s.fcr31 f := by
  rcases h.pending_cases with kept | ⟨e', rfl⟩ | ⟨c, rfl⟩ | ⟨store, rfl⟩
  · rw [kept, clear] at raised
    cases raised
  · cases raised
    exact ⟨_, rfl, fcr31AfterRaise_refl e s.fcr31⟩
  · cases raised
    exact ⟨_, rfl, fcr31AfterRaise_withCause s.fcr31 c⟩
  · exact absurd (clear.symm.trans raised) (by simp)

/-- Where no XTLB refill was requested, one that is requested afterwards is all that happened. -/
theorem Effect.requested (h : Effect s d t) (clear : s.pending.xtlb = false) (requested : t.pending.xtlb = true) :
    ∃ store, t = s.requestXtlb store := by
  have notKept {u : State} (kept : u.pending.xtlb = s.pending.xtlb) : ¬u.pending.xtlb = true := by
    rw [kept, clear]
    decide
  rcases h.pending_cases with kept | ⟨e, rfl⟩ | ⟨c, rfl⟩ | request
  · exact absurd requested (notKept (by rw [kept]))
  · exact absurd requested (notKept rfl)
  · exact absurd requested (notKept rfl)
  · exact request

theorem badVAddrAfter_of_address {va : Dword} (address : e = .addressErrorLoad va ∨ e = .addressErrorStore va)
    (old : Dword) : badVAddrAfter e old = va := by
  rcases address with rfl | rfl <;> rfl

theorem badVAddrAfter_of_no_address (none : ∀ va, e ≠ .addressErrorLoad va ∧ e ≠ .addressErrorStore va)
    (old : Dword) : badVAddrAfter e old = old := by
  unfold badVAddrAfter
  split
  · exact absurd rfl (none _).1
  · exact absurd rfl (none _).2
  · rfl

/-! ## The dispatch of an exception (R495, R507) -/

/-- With nothing of higher priority pending, the tick dispatches the synchronous exception. -/
theorem tick_of_sync (nmi : s.pending.nmi = false) (noReq : s.inputs.nmiReq = false) (xtlb : s.pending.xtlb = false)
    (cacheErr : s.pending.cacheErr = false) (sync : s.pending.sync = some e) :
    s.tick = s.timer.sampleInputs.takeException (.sync e) := by
  have chosen : s.timer.sampleInputs.chooseEvent = some (.sync e) := by
    simp [State.chooseEvent, State.sampleInputs, nmi, noReq, xtlb, cacheErr, sync]
  rw [State.tick, chosen]

theorem recordsReturn_of_exl_clear (exl : s.exl = false) : s.recordsReturn ev = true := by
  rw [State.recordsReturn, exl]
  exact Bool.or_true _

theorem causeAfter_bd (records : s.recordsReturn ev = true) :
    (s.causeAfter ev).getLsbD 31 = s.bu.branchDelayPending := by
  unfold State.causeAfter
  rw [if_pos records]
  dsimp only
  split
  · rw [getLsbD_setBit _ _ _ _ (by decide), if_pos rfl]
  · rw [getLsbD_mergeMask, if_neg (by decide), getLsbD_setBit _ _ _ _ (by decide), if_pos rfl]

theorem causeAfter_code (exceptionLevel : ev.errorLevel = false) : (s.causeAfter ev).extractLsb' 2 5 = ev.code := by
  unfold State.causeAfter
  dsimp only
  rw [if_neg (by rw [exceptionLevel]; decide)]
  apply BitVec.eq_of_getLsbD_eq
  intro j hj
  rw [BitVec.getLsbD_extractLsb', getLsbD_mergeMask]
  interval_cases j <;> simp

theorem takeException_exl (exceptionLevel : ev.errorLevel = false) : (s.takeException ev).exl = true := by
  rw [State.exl, takeException_status, State.statusAfter, if_neg (by rw [exceptionLevel]; decide),
    getLsbD_setBit _ _ _ _ (by decide), if_pos rfl]

theorem takeException_epc_of_exl_clear (exceptionLevel : ev.errorLevel = false) (exl : s.exl = false) :
    (s.takeException ev).cop0.epc = backedUpAddress s := by
  rw [takeException_epc, exceptionLevel, exl]
  rfl

end Sys2Proof.Machine

namespace Sys2Proof

open Machine

/-- Settles O9: the fetch after the tick reads the word, and what it decodes to is run. -/
theorem stepRunsTheFetchedInstruction : Obligations.StepRunsTheFetchedInstruction := by
  intro s u m v i mode slot none even read decoded _
  rw [step_of_fetch mode slot (tick_inject s ▸ none), fetchThen_of_ok even read, decoded]
  rfl

/-- Settles O18: of the effects of a decoded word, only a raise and a requested refill leave something newly pending. -/
theorem raiseHasNoOtherEffect : Obligations.RaiseHasNoOtherEffect := by
  refine ⟨fun d s t e run clear raised => ?_, fun d s t run clear requested => ?_⟩
  · obtain ⟨f, rfl, fcr31⟩ := (execDecoded_effect d s t run).recorded clear raised
    exact ⟨rfl, fun va address => badVAddrAfter_of_address address _, fun none => badVAddrAfter_of_no_address none _,
      fcr31⟩
  · obtain ⟨store, rfl⟩ := (execDecoded_effect d s t run).requested clear requested
    rfl

/-- Settles O15: the raise leaves the exception pending alone, and the tick, which changes neither the pc nor Status nor
the branch unit before it chooses, dispatches it. -/
theorem raisedExceptionReachesItsHandler : Obligations.RaisedExceptionReachesItsHandler := by
  intro d s t e run clear raised nmi noReq xtlb cacheErr exl
  obtain ⟨f, rfl, -⟩ := (execDecoded_effect d s t run).recorded clear raised
  rw [tick_of_sync (s := State.recordException { s with fcr31 := f } e) nmi noReq xtlb cacheErr raised]
  exact ⟨takeException_epc_of_exl_clear rfl exl, causeAfter_bd (recordsReturn_of_exl_clear exl), causeAfter_code rfl,
    takeException_exl rfl, rfl, rfl, rfl, rfl, rfl, rfl⟩

/-- Settles O20: the reserved-instruction gate is the first of every flagged instruction, and the flagged ones are read
off their fields. -/
theorem reservedIn32BitMode : Obligations.ReservedIn32BitMode := by
  refine ⟨fun i s flagged narrow => ?_, fun i => ?_⟩
  · obtain ⟨k, run⟩ := exec_throughGates i s
    exact run.trans ((gateWhen_of_flag flagged).trans (gate64_of_narrow narrow))
  · exact (reserved32_iff_fields i).trans (or_congr (and_opMask_mem_iff _).symm
      (or_congr (and_congr_left' (and_opMask_eq_iff 0).symm) (and_opRsMask_mem_iff _).symm))

/-- Settles O21: past the reserved-instruction gate the gate of the coprocessor is the next, and no instruction has
both. -/
theorem coprocessorUsableGates : Obligations.CoprocessorUsableGates := by
  refine ⟨fun i s cop1 wide cu1 => ?_, fun i s cop0 wide cu0 mode => ?_, usesCop1_iff_encode, usesCop0_iff_encode,
    fun s => gateCop1_of_unusable⟩
  · obtain ⟨k, run⟩ := exec_throughGates i s
    rw [Raises, run, throughGates, gateWhen_of_passes fun flagged => gate64_of_wide (wide flagged),
      usesCop0_of_usesCop1 cop1, cop1]
    exact gateCop1_of_unusable cu1
  · obtain ⟨k, run⟩ := exec_throughGates i s
    rw [Raises, run, throughGates, gateWhen_of_passes fun flagged => gate64_of_wide (wide flagged), cop0]
    exact gateCop0_of_unusable cu0 mode

/-- Settles O22: past its coprocessor's gate a transfer in a delay slot meets the last of the gates, and a TLB
instruction its refusal. -/
theorem stopsWithoutMeaning : Obligations.StopsWithoutMeaning := by
  refine ⟨fun i s transfer slot cu1 usable => ?_, fun i s tlb usable => ?_⟩
  · obtain ⟨k, run⟩ := exec_throughGates i s
    rw [run, throughGates, reserved32_of_isTransfer transfer,
      gateWhen_of_passes fun cop0 => gateCop0_of_usable (usable cop0),
      gateWhen_of_passes fun cop1 => gateCop1_of_cu1 (cu1 cop1), transfer]
    exact outsideDelaySlot_of_pending slot
  · rcases tlb with rfl | rfl | rfl | rfl <;> exact gateCop0_of_usable usable

end Sys2Proof
end

section
/-! PROOF. The integer adds and subtracts (R190 to R203): the value of each is its exact result wrapped to the width,
which a trapping form writes only where wrapping changes nothing. -/

namespace Sys2Proof.Machine

variable {s : State} {i : Instr} {r : Reg} {n : Nat} {x : Int}

/-! ## The wrapped result (R202, R203) -/

/-- An integer in the range of an `n`-bit signed value is not changed by wrapping to `n` bits. -/
theorem bmod_of_fits (pos : 0 < n) (low : -(2 ^ (n - 1)) ≤ x) (high : x ≤ 2 ^ (n - 1) - 1) : x.bmod (2 ^ n) = x := by
  rw [← BitVec.toInt_ofInt, BitVec.toInt_ofInt_eq_self pos low (Int.lt_of_le_sub_one high)]

theorem toInt_sext64_add (a b : Word) : (sext64 (a + b)).toInt = (a.toInt + b.toInt).bmod (2 ^ 32) := by
  rw [BitVec.toInt_signExtend_of_le (by decide), BitVec.toInt_add]

theorem toInt_sext64_sub (a b : Word) : (sext64 (a - b)).toInt = (a.toInt - b.toInt).bmod (2 ^ 32) := by
  rw [BitVec.toInt_signExtend_of_le (by decide), BitVec.toInt_sub]

/-! ## Finishing a trapping form (R203) -/

theorem signedOverflow_of_outside (outside : x < -(2 ^ (n - 1)) ∨ 2 ^ (n - 1) - 1 < x) : signedOverflow n x = true :=
  decide_eq_true outside

theorem signedOverflow_of_fits (low : -(2 ^ (n - 1)) ≤ x) (high : x ≤ 2 ^ (n - 1) - 1) : signedOverflow n x = false :=
  decide_eq_false (by omega)

/-- Both widths: a 32-bit form finishes as a 64-bit one does, with its result sign-extended. -/
theorem trapsOnOverflow_of_checked {v : Dword} (pos : 0 < n) (wrapped : v.toInt = x.bmod (2 ^ n))
    (run : exec i s = finish64Checked (signedOverflow n x) r v s) : TrapsOnOverflow n i s r x := by
  refine ⟨fun ⟨low, high⟩ => ?_, fun outside => ?_⟩
  · rw [signedOverflow_of_fits low high] at run
    exact writesGpr_of_complete run (wrapped.trans (bmod_of_fits pos low high))
  · rw [signedOverflow_of_outside outside] at run
    exact run

end Sys2Proof.Machine

namespace Sys2Proof

open Machine

/-- Settles O28: the 32-bit forms as they are and the 64-bit forms past their gate, each with its wrapped result. -/
theorem integerAddSubtract : Obligations.IntegerAddSubtract := by
  refine ⟨fun s rd rs rt imm => ?_, fun s rd rs rt imm wide => ?_, fun s rd rs rt imm => ?_⟩
  · rw [← BitVec.toInt_signExtend_of_le (x := imm) (v := 32) (by decide)]
    exact ⟨trapsOnOverflow_of_checked (by decide) (toInt_sext64_add _ _) rfl,
      trapsOnOverflow_of_checked (by decide) (toInt_sext64_sub _ _) rfl,
      trapsOnOverflow_of_checked (by decide) (toInt_sext64_add _ _) rfl⟩
  · rw [← BitVec.toInt_signExtend_of_le (x := imm) (v := 64) (by decide)]
    exact ⟨trapsOnOverflow_of_checked (by decide) (BitVec.toInt_add _ _) (gate64_of_wide wide),
      trapsOnOverflow_of_checked (by decide) BitVec.toInt_sub (gate64_of_wide wide),
      trapsOnOverflow_of_checked (by decide) (BitVec.toInt_add _ _) (gate64_of_wide wide)⟩
  · refine ⟨writesGpr_of_complete rfl (toInt_sext64_add _ _), writesGpr_of_complete rfl (toInt_sext64_sub _ _), ?_,
      fun wide => ⟨writesGpr_of_complete (gate64_of_wide wide) (BitVec.toInt_add _ _),
        writesGpr_of_complete (gate64_of_wide wide) BitVec.toInt_sub, ?_⟩⟩
    · rw [← BitVec.toInt_signExtend_of_le (x := imm) (v := 32) (by decide)]
      exact writesGpr_of_complete rfl (toInt_sext64_add _ _)
    · rw [← BitVec.toInt_signExtend_of_le (x := imm) (v := 64) (by decide)]
      exact writesGpr_of_complete (gate64_of_wide wide) (BitVec.toInt_add _ _)

end Sys2Proof
end

section
/-! PROOF. The multiplies and divides (R210 to R220): the two halves of a product make the exact product again, a
quotient and a remainder are those of truncation toward zero, and the table for a divisor of zero. -/

namespace Sys2Proof.Machine

variable {s : State} {i : Instr} {hi lo : Dword} {n : Nat} {a b : BitVec n}

/-! ## Completing with HI and LO, in the 32-bit forms the sign-extended words (R219) -/

theorem writesHiLo_of_complete {p : Dword → Dword → Prop} (run : exec i s = complete (s.writeHiLo hi lo))
    (values : p hi lo) : WritesHiLo i s p :=
  ⟨_, run, advanced_advance rfl rfl, values, rfl⟩

theorem toInt_sext64 (w : Word) : (sext64 w).toInt = w.toInt := BitVec.toInt_signExtend_of_le (by decide)

theorem trunc32_sext64 (w : Word) : trunc32 (sext64 w) = w := by
  apply BitVec.eq_of_toInt_eq
  rw [trunc32, ← BitVec.signExtend_eq_setWidth_of_le _ (by decide),
    BitVec.toInt_signExtend_eq_toInt_bmod_of_le _ (by decide), toInt_sext64, BitVec.toInt_bmod_cancel]

/-! ## The halves of a product (R214 to R217) -/

theorem upperProduct_append_lowerProduct (p : BitVec (2 * n)) :
    upperProduct p ++ lowerProduct p = p.cast (Nat.two_mul n) := by
  unfold upperProduct lowerProduct
  rw [BitVec.extractLsb'_append_extractLsb'_eq_extractLsb' (Nat.zero_add n).symm]
  ext j inside
  rw [BitVec.getElem_extractLsb', Nat.zero_add, BitVec.getElem_cast, BitVec.getLsbD_eq_getElem]

theorem toInt_cast {m : Nat} (width : n = m) (a : BitVec n) : (a.cast width).toInt = a.toInt := by
  rw [BitVec.toInt, BitVec.toNat_cast, ← width, BitVec.toInt]

theorem toInt_halves (p : BitVec (2 * n)) (pos : 0 < n) :
    (upperProduct p).toInt * 2 ^ n + (lowerProduct p).toNat = p.toInt := by
  have whole := congrArg BitVec.toInt (upperProduct_append_lowerProduct p)
  rwa [BitVec.toInt_append, if_neg (by simpa using pos.ne'), toInt_cast, Int.mul_comm] at whole

theorem toNat_halves (p : BitVec (2 * n)) : (upperProduct p).toNat * 2 ^ n + (lowerProduct p).toNat = p.toNat := by
  have whole := congrArg BitVec.toNat (upperProduct_append_lowerProduct p)
  rwa [BitVec.toNat_append, ← Nat.shiftLeft_add_eq_or_of_lt (lowerProduct p).isLt, Nat.shiftLeft_eq,
    BitVec.toNat_cast] at whole

theorem toInt_signedProduct (a b : BitVec n) (pos : 0 < n) : (signedProduct a b).toInt = a.toInt * b.toInt := by
  have low := BitVec.le_toInt_mul_toInt (x := a) (y := b)
  have high := BitVec.toInt_mul_toInt_le (x := a) (y := b)
  have room : (2 : Int) ^ (n * 2 - 2) < 2 ^ (2 * n - 1) := Int.pow_lt_pow_of_lt (by decide) (by omega)
  exact BitVec.toInt_ofInt_eq_self (by omega) (by omega) (by omega)

theorem toNat_unsignedProduct (a b : BitVec n) : (unsignedProduct a b).toNat = a.toNat * b.toNat := by
  have fits : a.toNat * b.toNat < 2 ^ (2 * n) := by
    rw [Nat.two_mul, Nat.pow_add]
    exact Nat.mul_lt_mul'' a.isLt b.isLt
  exact (BitVec.toNat_ofNat _ _).trans (Nat.mod_eq_of_lt fits)

/-! ## Quotients and remainders by a divisor that is not zero (R210 to R213) -/

theorem toInt_signedQuotient (nonzero : b ≠ 0) : (signedQuotient a b).toInt = (a.toInt.tdiv b.toInt).bmod (2 ^ n) := by
  rw [signedQuotient, if_neg nonzero, BitVec.toInt_ofInt]

/-- The remainder needs no wrapping: it is the library's `srem`, whose value is the truncating remainder. -/
theorem toInt_signedRemainder (nonzero : b ≠ 0) : (signedRemainder a b).toInt = a.toInt.tmod b.toInt := by
  have exact : a.toInt - a.toInt.tdiv b.toInt * b.toInt = (a.srem b).toInt := by
    rw [BitVec.toInt_srem, Int.tmod_def, Int.mul_comm]
  rw [signedRemainder, if_neg nonzero, exact, BitVec.ofInt_toInt, BitVec.toInt_srem]

theorem unsignedQuotient_of_ne (nonzero : b ≠ 0) : unsignedQuotient a b = BitVec.ofNat n (a.toNat / b.toNat) :=
  if_neg nonzero

theorem unsignedRemainder_of_ne (nonzero : b ≠ 0) : unsignedRemainder a b = BitVec.ofNat n (a.toNat % b.toNat) :=
  if_neg nonzero

theorem toNat_unsignedQuotient (nonzero : b ≠ 0) : (unsignedQuotient a b).toNat = a.toNat / b.toNat := by
  rw [unsignedQuotient_of_ne nonzero, BitVec.toNat_ofNat,
    Nat.mod_eq_of_lt (Nat.lt_of_le_of_lt (Nat.div_le_self _ _) a.isLt)]

theorem toNat_unsignedRemainder (nonzero : b ≠ 0) : (unsignedRemainder a b).toNat = a.toNat % b.toNat := by
  rw [unsignedRemainder_of_ne nonzero, BitVec.toNat_ofNat,
    Nat.mod_eq_of_lt (Nat.lt_of_le_of_lt (Nat.mod_le _ _) a.isLt)]

/-! ## The table of a divide by zero (R220) -/

theorem signedQuotient_zero_of_nonneg (nonneg : 0 ≤ a.toInt) : signedQuotient a 0 = BitVec.allOnes n := by
  rw [signedQuotient, if_pos rfl, if_neg (Int.not_lt.mpr nonneg)]

theorem signedQuotient_zero_of_neg (neg : a.toInt < 0) : signedQuotient a 0 = 1 := by
  rw [signedQuotient, if_pos rfl, if_pos neg]

theorem signedRemainder_zero (a : BitVec n) : signedRemainder a 0 = a := if_pos rfl

theorem unsignedQuotient_zero (a : BitVec n) : unsignedQuotient a 0 = BitVec.allOnes n := if_pos rfl

theorem unsignedRemainder_zero (a : BitVec n) : unsignedRemainder a 0 = a := if_pos rfl

end Sys2Proof.Machine

namespace Sys2Proof

open Machine

/-- Settles O29: each form completes with its halves, or its quotient and remainder, the 64-bit forms past their gate. -/
theorem multiplyIsExactAndDivideTruncates : Obligations.MultiplyIsExactAndDivideTruncates := by
  refine ⟨fun s rs rt => ⟨writesHiLo_of_complete rfl ?mult, writesHiLo_of_complete rfl ?multu,
      fun wide => ⟨writesHiLo_of_complete (gate64_of_wide wide) ?dmult,
        writesHiLo_of_complete (gate64_of_wide wide) ?dmultu⟩⟩,
    fun s rs rt => ⟨fun nonzero => ⟨writesHiLo_of_complete rfl ?div, writesHiLo_of_complete rfl ?divu⟩,
      fun nonzero wide => ⟨writesHiLo_of_complete (gate64_of_wide wide) ?ddiv,
        writesHiLo_of_complete (gate64_of_wide wide) ?ddivu⟩⟩⟩
  case mult =>
    rw [trunc32_sext64, toInt_sext64, toInt_halves _ (by decide), toInt_signedProduct _ _ (by decide)]
    exact ⟨rfl, rfl⟩
  case multu =>
    rw [trunc32_sext64, trunc32_sext64, toNat_halves, toNat_unsignedProduct]
    exact ⟨rfl, rfl, rfl⟩
  case dmult => rw [toInt_halves _ (by decide), toInt_signedProduct _ _ (by decide)]
  case dmultu => rw [toNat_halves, toNat_unsignedProduct]
  case div =>
    rw [toInt_sext64, toInt_sext64]
    exact ⟨toInt_signedQuotient nonzero, toInt_signedRemainder nonzero⟩
  case divu =>
    rw [toInt_sext64, toInt_sext64, unsignedQuotient_of_ne nonzero, unsignedRemainder_of_ne nonzero]
    exact ⟨BitVec.toInt_ofNat' _, BitVec.toInt_ofNat' _⟩
  case ddiv => exact ⟨toInt_signedQuotient nonzero, toInt_signedRemainder nonzero⟩
  case ddivu => exact ⟨toNat_unsignedQuotient nonzero, toNat_unsignedRemainder nonzero⟩

/-- Settles O30: the table of each divide, its 32-bit values sign-extended. -/
theorem divideByZeroTable : Obligations.DivideByZeroTable := by
  refine fun s rs rt => ⟨fun zero => ⟨writesHiLo_of_complete rfl ?div, writesHiLo_of_complete rfl ?divu⟩,
    fun zero wide => ⟨writesHiLo_of_complete (gate64_of_wide wide) ?ddiv,
      writesHiLo_of_complete (gate64_of_wide wide) ?ddivu⟩⟩ <;> rw [zero]
  case div =>
    rw [signedRemainder_zero]
    exact ⟨rfl, fun nonneg => by rw [signedQuotient_zero_of_nonneg nonneg]; decide,
      fun neg => by rw [signedQuotient_zero_of_neg neg]; decide⟩
  case divu =>
    rw [unsignedRemainder_zero, unsignedQuotient_zero]
    exact ⟨rfl, by decide⟩
  case ddiv => exact ⟨signedRemainder_zero _, signedQuotient_zero_of_nonneg, signedQuotient_zero_of_neg⟩
  case ddivu => exact ⟨unsignedRemainder_zero _, unsignedQuotient_zero _⟩

end Sys2Proof
end

section
/-! PROOF. The shifts, set-on-less-than, bitwise logic and LUI (R230 to R259): a shift multiplies or divides by a power
of two, a comparison is of the operands reduced to the operating width, and a logic result is read bit by bit. -/

namespace Sys2Proof.Machine

variable {s : State} {n k : Nat}

/-! ## A shift as a product or a quotient, and its amount (R257, R259) -/

theorem toNat_shiftLeft_eq_mul (a : BitVec n) (k : Nat) : (a <<< k).toNat = a.toNat * 2 ^ k % 2 ^ n := by
  rw [BitVec.toNat_shiftLeft, Nat.shiftLeft_eq]

theorem toNat_ushiftRight_eq_div (a : BitVec n) (k : Nat) : (a >>> k).toNat = a.toNat / 2 ^ k := by
  rw [BitVec.toNat_ushiftRight, Nat.shiftRight_eq_div_pow]

theorem toInt_sshiftRight_eq_div (a : BitVec n) (k : Nat) : (a.sshiftRight k).toInt = a.toInt / 2 ^ k := by
  rw [BitVec.toInt_sshiftRight, Int.shiftRight_eq_div_pow, Nat.cast_pow, Nat.cast_ofNat]

theorem toInt_sext64_shiftLeft (a : Word) (k : Nat) :
    (sext64 (a <<< k)).toInt = ((a.toNat * 2 ^ k : Nat) : Int).bmod (2 ^ 32) := by
  rw [toInt_sext64, BitVec.toInt_shiftLeft, Nat.shiftLeft_eq]

theorem toInt_sext64_ushiftRight (a : Word) (k : Nat) :
    (sext64 (a >>> k)).toInt = ((a.toNat / 2 ^ k : Nat) : Int).bmod (2 ^ 32) := by
  rw [toInt_sext64, BitVec.toInt_eq_toNat_bmod, toNat_ushiftRight_eq_div]

theorem toInt_sext64_sshiftRight (a : Word) (k : Nat) : (sext64 (a.sshiftRight k)).toInt = a.toInt / 2 ^ k := by
  rw [toInt_sext64, toInt_sshiftRight_eq_div]

theorem toNat_extractLsb'_zero (x : Dword) (n : Nat) : (x.extractLsb' 0 n).toNat = x.toNat % 2 ^ n := by
  rw [BitVec.extractLsb'_toNat, Nat.shiftRight_zero]

theorem shiftAmount32_eq {bits : VShift32Bits} {x : Dword} (six : bits = .six → n = x.toNat % 64)
    (five : bits = .five → n = x.toNat % 32) : shiftAmount32 bits x = n := by
  cases bits with
  | six => exact (toNat_extractLsb'_zero x 6).trans (six rfl).symm
  | five => exact (toNat_extractLsb'_zero x 5).trans (five rfl).symm

theorem shiftAmount64_eq (x : Dword) : shiftAmount64 x = x.toNat % 64 := toNat_extractLsb'_zero x 6

/-! ## Set-on-less-than at the operating width (R258) -/

/-- The `W` of R258. -/
def operatingWidth (wide : Bool) : Nat := if wide then 64 else 32

theorem exists_operatingWidth {w : Nat} (width : (s.op64? = some true ∧ w = 64) ∨ (s.op64? = some false ∧ w = 32)) :
    ∃ wide, s.op64? = some wide ∧ w = operatingWidth wide :=
  width.elim (fun ⟨op64, eq⟩ => ⟨true, op64, eq⟩) fun ⟨op64, eq⟩ => ⟨false, op64, eq⟩

theorem toInt_trunc32 (a : Dword) : (trunc32 a).toInt = a.toInt.bmod (2 ^ 32) := by
  rw [trunc32, ← BitVec.signExtend_eq_setWidth_of_le _ (by decide),
    BitVec.toInt_signExtend_eq_toInt_bmod_of_le _ (by decide)]

theorem boolValue_decide (p : Prop) [Decidable p] : boolValue (decide p) = if p then 1 else 0 := by
  simp only [boolValue, decide_eq_true_eq]

theorem boolValue_signedLess (wide : Bool) (a b : Dword) : boolValue (signedLess wide a b) =
    if a.toInt.bmod (2 ^ operatingWidth wide) < b.toInt.bmod (2 ^ operatingWidth wide) then 1 else 0 := by
  rw [← boolValue_decide]
  cases wide with
  | true => rw [operatingWidth, if_pos rfl, BitVec.toInt_bmod_cancel, BitVec.toInt_bmod_cancel]; rfl
  | false => rw [operatingWidth, if_neg Bool.false_ne_true, ← toInt_trunc32, ← toInt_trunc32]; rfl

theorem boolValue_unsignedLess (wide : Bool) (a b : Dword) : boolValue (unsignedLess wide a b) =
    if a.toNat % 2 ^ operatingWidth wide < b.toNat % 2 ^ operatingWidth wide then 1 else 0 := by
  rw [← boolValue_decide]
  cases wide with
  | true => rw [operatingWidth, if_pos rfl, Nat.mod_eq_of_lt a.isLt, Nat.mod_eq_of_lt b.isLt]; rfl
  | false => rw [operatingWidth, if_neg Bool.false_ne_true, ← BitVec.toNat_setWidth, ← BitVec.toNat_setWidth]; rfl

/-- Reducing an operand to the operating width takes the residue of its unsigned and of its signed value alike. -/
theorem natCast_toNat_mod_operatingWidth (a : Dword) (wide : Bool) :
    ((a.toNat % 2 ^ operatingWidth wide : Nat) : Int) = a.toInt % 2 ^ operatingWidth wide := by
  have divides : (2 : Int) ^ operatingWidth wide ∣ (2 ^ 64 : Nat) := by cases wide <;> decide
  rw [Int.natCast_mod, Nat.cast_pow, Nat.cast_ofNat, BitVec.toInt_eq_toNat_bmod, ← Int.emod_emod_of_dvd _ divides,
    ← Int.emod_emod_of_dvd (Int.bmod _ _) divides, Int.bmod_emod]

/-! ## The immediate of SLTI and SLTIU (R247, R248) -/

section
variable {ext : SltImmExt} {imm : Half} {i : Int}
  (extended : (ext = .sign ∧ i = imm.toInt) ∨ (ext = .zero ∧ i = imm.toNat))
include extended

theorem toInt_sltImmediate : (sltImmediate ext imm).toInt = i := by
  rcases extended with ⟨rfl, rfl⟩ | ⟨rfl, rfl⟩
  · exact BitVec.toInt_signExtend_of_le (by decide)
  · rw [sltImmediate, BitVec.toInt_setWidth]
    exact bmod_of_fits (by decide) (by omega) (by omega)

/-- The extended immediate is the same signed number at either width. -/
theorem bmod_operatingWidth_sltImmediate (wide : Bool) :
    (sltImmediate ext imm).toInt.bmod (2 ^ operatingWidth wide) = i := by
  have small : -(2 ^ 15) ≤ i ∧ i ≤ 2 ^ 16 := by
    have low := imm.le_toInt
    have high := imm.toInt_lt
    omega
  rw [toInt_sltImmediate extended]
  cases wide <;> exact bmod_of_fits (by decide) (small.1.trans' (by decide)) (small.2.trans (by decide))

end

/-! ## Bitwise logic and LUI (R253 to R256) -/

theorem getLsbD_zext64_half (imm : Half) (inside : k < 64) :
    (zext64 imm).getLsbD k = (decide (k < 16) && imm.getLsbD k) := by
  rw [BitVec.getLsbD_setWidth, decide_eq_true inside, Bool.true_and]
  by_cases low : k < 16
  · rw [decide_eq_true low, Bool.true_and]
  · rw [BitVec.getLsbD_of_ge imm k (Nat.le_of_not_lt low), Bool.and_false]

theorem toInt_sext64_lui (imm : Half) : (sext64 (imm ++ 0#16)).toInt = imm.toInt * 65536 := by
  rw [toInt_sext64, BitVec.toInt_append, if_neg (by decide), BitVec.toNat_ofNat]
  omega

end Sys2Proof.Machine

namespace Sys2Proof

open Machine

/-- Settles O31: every form is one of the three shifts at its own amount, the 64-bit forms past their gate. -/
theorem shiftsMoveBits : Obligations.ShiftsMoveBits := by
  refine ⟨fun s rd rs rt sa n six five => ?word, fun s rd rs rt sa n wide amount => ?dword⟩
  case word =>
    rw [← shiftAmount32_eq six five]
    exact ⟨writesGpr_of_complete rfl (toInt_sext64_shiftLeft _ _),
      writesGpr_of_complete rfl (toInt_sext64_ushiftRight _ _),
      writesGpr_of_complete rfl (toInt_sext64_sshiftRight _ _),
      writesGpr_of_complete rfl (toInt_sext64_shiftLeft _ _),
      writesGpr_of_complete rfl (toInt_sext64_ushiftRight _ _),
      writesGpr_of_complete rfl (toInt_sext64_sshiftRight _ _)⟩
  case dword =>
    rw [amount, ← shiftAmount64_eq]
    exact ⟨writesGpr_of_complete (gate64_of_wide wide) (toNat_shiftLeft_eq_mul _ _),
      writesGpr_of_complete (gate64_of_wide wide) (toNat_ushiftRight_eq_div _ _),
      writesGpr_of_complete (gate64_of_wide wide) (toInt_sshiftRight_eq_div _ _),
      writesGpr_of_complete (gate64_of_wide wide) (toNat_shiftLeft_eq_mul _ _),
      writesGpr_of_complete (gate64_of_wide wide) (toNat_ushiftRight_eq_div _ _),
      writesGpr_of_complete (gate64_of_wide wide) (toInt_sshiftRight_eq_div _ _),
      writesGpr_of_complete (gate64_of_wide wide) (toNat_shiftLeft_eq_mul _ _),
      writesGpr_of_complete (gate64_of_wide wide) (toNat_ushiftRight_eq_div _ _),
      writesGpr_of_complete (gate64_of_wide wide) (toInt_sshiftRight_eq_div _ _)⟩

/-- Settles O32: a comparison at the width that Op64 gives, a logic result by its bits. -/
theorem setOnLessThanLogicAndLui : Obligations.SetOnLessThanLogicAndLui := by
  refine ⟨fun s rd rs rt imm w i width extended => ?compare, fun s rd rs rt imm => ?logic⟩
  case compare =>
    obtain ⟨wide, op64, rfl⟩ := exists_operatingWidth width
    refine ⟨writesGpr_of_complete (withOp64_of_some op64) (boolValue_signedLess _ _ _),
      writesGpr_of_complete (withOp64_of_some op64) (boolValue_unsignedLess _ _ _),
      writesGpr_of_complete (withOp64_of_some op64) ?slti, writesGpr_of_complete (withOp64_of_some op64) ?sltiu⟩
    case slti => rw [boolValue_signedLess, bmod_operatingWidth_sltImmediate extended]
    case sltiu =>
      rw [boolValue_unsignedLess, ← toInt_sltImmediate extended, ← natCast_toNat_mod_operatingWidth]
      simp only [Nat.cast_lt]
  case logic =>
    refine ⟨writesGpr_of_complete rfl fun k _ => BitVec.getLsbD_and,
      writesGpr_of_complete rfl fun k _ => BitVec.getLsbD_or,
      writesGpr_of_complete rfl fun k _ => BitVec.getLsbD_xor, writesGpr_of_complete rfl fun k inside => ?nor,
      writesGpr_of_complete rfl fun k inside => ?andi, writesGpr_of_complete rfl fun k inside => ?ori,
      writesGpr_of_complete rfl fun k inside => ?xori, writesGpr_of_complete rfl (toInt_sext64_lui imm)⟩
    case nor => rw [BitVec.getLsbD_not, decide_eq_true inside, Bool.true_and, BitVec.getLsbD_or]
    case andi => rw [BitVec.getLsbD_and, getLsbD_zext64_half imm inside, Bool.and_left_comm, Bool.and_assoc]
    case ori => rw [BitVec.getLsbD_or, getLsbD_zext64_half imm inside]
    case xori => rw [BitVec.getLsbD_xor, getLsbD_zext64_half imm inside]

end Sys2Proof
end

section
/-! PROOF. The transfers between a general register and HI or LO (R271 to R274). -/

namespace Sys2Proof

open Machine

/-- Settles O33: a transfer from HI or LO writes its register; one to HI or LO is a write of both in which the other
takes the value it had. -/
theorem hiLoTransfers : Obligations.HiLoTransfers := fun s r =>
  ⟨writesGpr_of_complete (v := s.hi) rfl rfl, writesGpr_of_complete (v := s.lo) rfl rfl,
    writesHiLo_of_complete (hi := s.readReg r) (lo := s.lo) rfl ⟨rfl, rfl⟩,
    writesHiLo_of_complete (hi := s.hi) (lo := s.readReg r) rfl ⟨rfl, rfl⟩⟩

end Sys2Proof
end

section
/-! PROOF. The branches and jumps (R300 to R329): outside a delay slot each is one `branch` or one `jump`, so what every
one of them does is said once for those two, over the condition of a branch and the target of a jump. -/

namespace Sys2Proof.Machine

variable {s : State} {i : Instr} {k : Answer}

theorem outsideDelaySlot_of_not_pending (outside : s.bu.branchDelayPending = false) : outsideDelaySlot s k = k :=
  if_neg (ne_true_of_eq_false outside)

/-! ## Targets (R300, R322) -/

/-- The offset of a branch counts words. -/
theorem sext64_shiftLeft_two (offset : Half) : sext64 offset <<< 2 = BitVec.ofInt 64 (4 * offset.toInt) := by
  rw [BitVec.shiftLeft_eq_mul_twoPow, BitVec.mul_comm, BitVec.ofInt_mul]
  rfl

theorem branchBaseAdj_eq (b : BranchBase) : branchBaseAdj b = if b = .ownAddress then 0 else 4 := by
  cases b <;> rfl

theorem branchTarget_eq (s : State) (offset : Half) : s.branchTarget offset =
    s.pc + (if s.cfg.branchBase = .ownAddress then 0 else 4) + BitVec.ofInt 64 (4 * offset.toInt) := by
  rw [State.branchTarget, branchBaseAdj_eq, sext64_shiftLeft_two]

/-- The 256 MB region of an address is its upper 36 bits. -/
theorem and_regionMask (a : Dword) : a &&& 0xFFFFFFFFF0000000#64 = a.extractLsb' 28 36 ++ 0#28 := by
  calc a &&& 0xFFFFFFFFF0000000#64
      = (a.extractLsb' 28 36 ++ a.extractLsb' 0 28) &&& (BitVec.allOnes 36 ++ 0#28) :=
        congrArg (· &&& _) (BitVec.extractLsb'_append_extractLsb' (w := 36) (len := 28)).symm
    _ = a.extractLsb' 28 36 ++ 0#28 := by rw [BitVec.and_append, BitVec.and_allOnes, BitVec.and_zero]

/-- The target field of a jump counts words inside the region. -/
theorem ofNat_four_mul (target : BitVec 26) : BitVec.ofNat 64 (4 * target.toNat) = 0#36 ++ (target ++ 0#2) := by
  apply BitVec.eq_of_toNat_eq
  simp only [BitVec.toNat_append, BitVec.toNat_ofNat, Nat.zero_mod, Nat.shiftLeft_eq, Nat.zero_mul,
    Nat.zero_or, Nat.or_zero]
  omega

theorem jumpTarget_eq (s : State) (target : BitVec 26) : s.jumpTarget target =
    ((s.pc + 4) &&& 0xFFFFFFFFF0000000#64) + BitVec.ofNat 64 (4 * target.toNat) := by
  rw [and_regionMask, ofNat_four_mul, BitVec.append_zero_add_zero_append, State.jumpTarget, BitVec.append_assoc]
  rfl

/-! ## Conditions (R328) -/

theorem regsEqual_iff {rs rt : Reg} : s.regsEqual rs rt = true ↔ s.readReg rs = s.readReg rt := decide_eq_true_iff

theorem regNegative_iff {rs : Reg} : s.regNegative rs = true ↔ (s.readReg rs).toInt < 0 := decide_eq_true_iff

theorem regNotPositive_iff {rs : Reg} : s.regNotPositive rs = true ↔ (s.readReg rs).toInt ≤ 0 := decide_eq_true_iff

theorem not_regsEqual_iff {rs rt : Reg} : (!s.regsEqual rs rt) = true ↔ s.readReg rs ≠ s.readReg rt :=
  Bool.not_iff_not.trans (not_congr regsEqual_iff)

theorem not_regNegative_iff {rs : Reg} : (!s.regNegative rs) = true ↔ 0 ≤ (s.readReg rs).toInt :=
  (Bool.not_iff_not.trans (not_congr regNegative_iff)).trans not_lt

theorem not_regNotPositive_iff {rs : Reg} : (!s.regNotPositive rs) = true ↔ 0 < (s.readReg rs).toInt :=
  (Bool.not_iff_not.trans (not_congr regNotPositive_iff)).trans not_le

/-! ## The two operations (R301, R329) -/

theorem branches_of_run {taken likely link : Bool} {offset : Half} {c : Prop}
    (outside : s.bu.branchDelayPending = false) (run : exec i s = branch taken likely link offset s)
    (condition : taken = true ↔ c) : Branches i s c likely link offset := by
  rw [branch, outsideDelaySlot_of_not_pending outside, branchEffect_eq, branchEffect_bu, branchTarget_eq] at run
  refine ⟨_, run, rfl, rfl, fun holds => ?taken, fun fails isLikely => ?nullified, fun fails notLikely => ?untaken,
    fun links => ?linked, fun linkless => ?unlinked⟩
  case taken => exact if_pos (condition.mpr holds)
  case nullified => exact (if_neg (mt condition.mp fails)).trans (if_pos isLikely)
  case untaken => exact (if_neg (mt condition.mp fails)).trans (if_neg (ne_true_of_eq_false notLikely))
  case linked =>
    subst links
    exact gprWritten_writeReg s 31 s.linkAddress
  case unlinked =>
    subst linkless
    rfl

theorem jumpsTo_of_run {target : Dword} {link : Option Reg} (outside : s.bu.branchDelayPending = false)
    (run : exec i s = jump target link s) : JumpsTo i s target link := by
  unfold jump at run
  rw [outsideDelaySlot_of_not_pending outside] at run
  cases link with
  | none => exact ⟨_, run, rfl, rfl, rfl, nofun, fun _ => rfl⟩
  | some r =>
    refine ⟨_, run, rfl, rfl, rfl, fun rd linked => ?_, nofun⟩
    cases linked
    exact gprWritten_writeReg s r s.linkAddress

end Sys2Proof.Machine

namespace Sys2Proof

open Machine

/-- Settles O38: each branch runs `branch` with its condition, the floating-point ones past their gate. -/
theorem conditionalBranches : Obligations.ConditionalBranches := by
  refine ⟨fun s rs rt o outside => ?registers, fun s o outside cu1 => ?flag⟩
  case registers =>
    exact ⟨branches_of_run outside rfl regsEqual_iff, branches_of_run outside rfl not_regsEqual_iff,
      branches_of_run outside rfl regNotPositive_iff, branches_of_run outside rfl not_regNotPositive_iff,
      branches_of_run outside rfl regNegative_iff, branches_of_run outside rfl not_regNegative_iff,
      branches_of_run outside rfl regNegative_iff, branches_of_run outside rfl not_regNegative_iff,
      branches_of_run outside rfl regsEqual_iff, branches_of_run outside rfl not_regsEqual_iff,
      branches_of_run outside rfl regNotPositive_iff, branches_of_run outside rfl not_regNotPositive_iff,
      branches_of_run outside rfl regNegative_iff, branches_of_run outside rfl not_regNegative_iff,
      branches_of_run outside rfl regNegative_iff, branches_of_run outside rfl not_regNegative_iff⟩
  case flag =>
    have set : conditionFlag s.fcr31 = true ↔ s.fcr31.getLsbD 23 = true := Iff.rfl
    have clear : (!conditionFlag s.fcr31) = true ↔ s.fcr31.getLsbD 23 = false :=
      iff_of_eq (Bool.not_eq_true' _)
    exact ⟨branches_of_run outside (gateCop1_of_cu1 cu1) clear, branches_of_run outside (gateCop1_of_cu1 cu1) set,
      branches_of_run outside (gateCop1_of_cu1 cu1) clear, branches_of_run outside (gateCop1_of_cu1 cu1) set⟩

/-- Settles O39: each jump runs `jump`; the register of JR and JALR is read in the state before the link. -/
theorem jumpsSetTheBranchUnit : Obligations.JumpsSetTheBranchUnit := by
  rintro s rd rs target _ outside rfl
  rw [← jumpTarget_eq]
  exact ⟨jumpsTo_of_run outside rfl, jumpsTo_of_run outside rfl, jumpsTo_of_run outside rfl,
    jumpsTo_of_run outside rfl⟩

end Sys2Proof
end

section
/-! PROOF. The bytes of a datum: what the merges of the unaligned loads and stores make of each byte (R369), and that
the left and the right forms pair up (R370). -/

namespace Sys2Proof.Machine

/-- Byte `j`, in address order, of a datum whose last byte is byte `last` (R90). -/
def datumByte {w : Nat} (last : Nat) (x : BitVec w) (j : Nat) : Byte := (x >>> (8 * (last - j))).setWidth 8

/-- The datum that begins at byte `n` of the aligned datum `m` and goes on in the next one, `m'` (R370). -/
def datumAt {w : Nat} (last : Nat) (m m' : BitVec w) (n : Nat) : BitVec w :=
  (m <<< (8 * n)) ||| (if n = 0 then 0 else m' >>> (8 * (last + 1 - n)))

theorem getLsbD_datumByte {w last j b : Nat} (x : BitVec w) (low : b < 8) :
    (datumByte last x j).getLsbD b = x.getLsbD (8 * (last - j) + b) := by
  rw [datumByte, BitVec.getLsbD_setWidth, BitVec.getLsbD_ushiftRight, decide_eq_true low, Bool.true_and]

theorem getLsbD_lowMask (w n k : Nat) : (lowMask w n).getLsbD k = (decide (k < w) && decide (k < n)) := by
  rw [lowMask, BitVec.getLsbD_ofNat, Nat.testBit_two_pow_sub_one]

theorem datumByte_or {w : Nat} (last : Nat) (x y : BitVec w) (j : Nat) :
    datumByte last (x ||| y) j = datumByte last x j ||| datumByte last y j := by
  rw [datumByte, BitVec.ushiftRight_or_distrib, BitVec.setWidth_or]
  rfl

theorem datumByte_zero {w : Nat} (last j : Nat) : datumByte last (0 : BitVec w) j = 0 := by
  rw [datumByte, BitVec.ofNat_eq_ofNat, BitVec.zero_ushiftRight, BitVec.setWidth_zero]
  rfl

/-- The bytes of a word in a doubleword are those of the low word. -/
theorem datumByte_trunc32 (v : Dword) (j : Nat) : datumByte 3 (trunc32 v) j = datumByte 3 v j := by
  refine BitVec.eq_of_getLsbD_eq fun b low => ?_
  rw [getLsbD_datumByte _ low, getLsbD_datumByte _ low, BitVec.getLsbD_setWidth,
    decide_eq_true (by omega), Bool.true_and]

section
variable {w last n j : Nat} (width : w = 8 * (last + 1)) (m m' r : BitVec w)
include width

/-- A datum is its bytes. -/
theorem eq_of_datumByte_eq {x y : BitVec w} (same : ∀ j, j ≤ last → datumByte last x j = datumByte last y j) :
    x = y := by
  refine BitVec.eq_of_getLsbD_eq fun k inside => ?_
  have place : 8 * (last - (last - k / 8)) + k % 8 = k := by omega
  have bit := congrArg (·.getLsbD (k % 8)) (same (last - k / 8) (Nat.sub_le _ _))
  rwa [getLsbD_datumByte _ (Nat.mod_lt k (by decide)), getLsbD_datumByte _ (Nat.mod_lt k (by decide)), place] at bit

variable (inside : j ≤ last)
include inside

theorem datumByte_shiftLeft :
    datumByte last (m <<< (8 * n)) j = if j + n < last + 1 then datumByte last m (j + n) else 0 := by
  refine BitVec.eq_of_getLsbD_eq fun b low => ?_
  rw [getLsbD_datumByte _ low, BitVec.getLsbD_shiftLeft, decide_eq_true (by omega), Bool.true_and]
  split
  · have place : 8 * (last - j) + b - 8 * n = 8 * (last - (j + n)) + b := by omega
    rw [decide_eq_false (by omega), getLsbD_datumByte _ low, place]
    rfl
  · rw [decide_eq_true (by omega)]
    exact (BitVec.getLsbD_zero).symm

theorem datumByte_ushiftRight :
    datumByte last (m >>> (8 * n)) j = if n ≤ j then datumByte last m (j - n) else 0 := by
  refine BitVec.eq_of_getLsbD_eq fun b low => ?_
  rw [getLsbD_datumByte _ low, BitVec.getLsbD_ushiftRight]
  split
  · have place : 8 * n + (8 * (last - j) + b) = 8 * (last - (j - n)) + b := by omega
    rw [getLsbD_datumByte _ low, place]
  · rw [BitVec.getLsbD_of_ge _ _ (by omega)]
    exact (BitVec.getLsbD_zero).symm

theorem datumByte_and_lowMask : datumByte last (r &&& lowMask w (8 * n)) j =
    if j + n < last + 1 then 0 else datumByte last r j := by
  refine BitVec.eq_of_getLsbD_eq fun b low => ?_
  rw [getLsbD_datumByte _ low, BitVec.getLsbD_and, getLsbD_lowMask, decide_eq_true (by omega), Bool.true_and]
  split
  · rw [decide_eq_false (by omega), Bool.and_false]
    exact (BitVec.getLsbD_zero).symm
  · rw [decide_eq_true (by omega), Bool.and_true, getLsbD_datumByte _ low]

theorem datumByte_and_not_lowMask : datumByte last (r &&& ~~~(lowMask w (8 * n))) j =
    if j + n < last + 1 then datumByte last r j else 0 := by
  refine BitVec.eq_of_getLsbD_eq fun b low => ?_
  rw [getLsbD_datumByte _ low, BitVec.getLsbD_and, BitVec.getLsbD_not, getLsbD_lowMask, decide_eq_true (by omega),
    Bool.true_and, Bool.true_and]
  split
  · rw [decide_eq_false (by omega), Bool.not_false, Bool.and_true, getLsbD_datumByte _ low]
  · rw [decide_eq_true (by omega), Bool.not_true, Bool.and_false]
    exact (BitVec.getLsbD_zero).symm

/-! ## The merges of R369, byte by byte -/

theorem datumByte_mergeLoadLeft : datumByte last (mergeLoadLeft m r n) j =
    if j + n < last + 1 then datumByte last m (j + n) else datumByte last r j := by
  rw [mergeLoadLeft, datumByte_or, datumByte_shiftLeft width m inside, datumByte_and_lowMask width r inside]
  split
  · exact BitVec.or_zero
  · exact BitVec.zero_or

theorem datumByte_mergeLoadRight (le : n ≤ last) : datumByte last (mergeLoadRight m r last n) j =
    if last ≤ j + n then datumByte last m (j + n - last) else datumByte last r j := by
  rw [mergeLoadRight, datumByte_or, datumByte_ushiftRight width m inside, datumByte_and_not_lowMask width r inside]
  split
  · have place : j - (last - n) = j + n - last := by omega
    rw [if_neg (by omega), if_pos (by omega), place]
    exact BitVec.or_zero
  · rw [if_pos (by omega), if_neg (by omega)]
    exact BitVec.zero_or

theorem datumByte_mergeStoreLeft (le : n ≤ last) : datumByte last (mergeStoreLeft m r last n) j =
    if n ≤ j then datumByte last r (j - n) else datumByte last m j := by
  rw [mergeStoreLeft, datumByte_or, datumByte_and_not_lowMask width m inside, datumByte_ushiftRight width r inside]
  by_cases right : n ≤ j
  · rw [if_neg (by omega), if_pos right, if_pos right]
    exact BitVec.zero_or
  · rw [if_pos (by omega), if_neg right, if_neg right]
    exact BitVec.or_zero

theorem datumByte_mergeStoreRight (le : n ≤ last) : datumByte last (mergeStoreRight m r last n) j =
    if j ≤ n then datumByte last r (j + last - n) else datumByte last m j := by
  rw [mergeStoreRight, datumByte_or, datumByte_shiftLeft width r inside, datumByte_and_lowMask width m inside]
  by_cases left : j ≤ n
  · have place : j + (last - n) = j + last - n := by omega
    rw [if_pos (by omega), if_pos (by omega), if_pos left, place]
    exact BitVec.or_zero
  · rw [if_neg (by omega), if_neg (by omega), if_neg left]
    exact BitVec.zero_or

theorem datumByte_datumAt (le : n ≤ last) : datumByte last (datumAt last m m' n) j =
    if j + n < last + 1 then datumByte last m (j + n) else datumByte last m' (j + n - (last + 1)) := by
  rw [datumAt, datumByte_or, datumByte_shiftLeft width m inside]
  by_cases aligned : n = 0
  · rw [if_pos aligned, if_pos (by omega), if_pos (by omega), datumByte_zero]
    exact BitVec.or_zero
  · rw [if_neg aligned, datumByte_ushiftRight width m' inside]
    by_cases left : j + n < last + 1
    · rw [if_pos left, if_pos left, if_neg (by omega)]
      exact BitVec.or_zero
    · have place : j - (last + 1 - n) = j + n - (last + 1) := by omega
      rw [if_neg left, if_neg left, if_pos (by omega), place]
      exact BitVec.zero_or

end

/-! ## Left and right forms pair up (R370) -/

/-- The remainder of the address of the last byte of a datum that begins at remainder `n`. -/
theorem last_remainder {n last : Nat} (le : n ≤ last) :
    (n = 0 ∧ (n + last) % (last + 1) = last) ∨ (n ≠ 0 ∧ (n + last) % (last + 1) = n - 1) := by
  rcases n with - | n
  · exact .inl ⟨rfl, by rw [Nat.zero_add, Nat.mod_eq_of_lt (Nat.lt_succ_self last)]⟩
  · refine .inr ⟨Nat.succ_ne_zero n, ?_⟩
    rw [show n + 1 + last = n + (last + 1) by omega, Nat.add_mod_right, Nat.mod_eq_of_lt (by omega)]
    rfl

section
variable {w last n : Nat} (width : w = 8 * (last + 1)) (m m' r q : BitVec w) (le : n ≤ last)
include width le

theorem mergeLoadRight_mergeLoadLeft (same : n = 0 → m' = m) :
    mergeLoadRight m' (mergeLoadLeft m r n) last ((n + last) % (last + 1)) = datumAt last m m' n := by
  refine eq_of_datumByte_eq width fun j inside => ?_
  rw [datumByte_datumAt width m m' inside le]
  rcases last_remainder le with ⟨aligned, e⟩ | ⟨unaligned, e⟩ <;>
    rw [e, datumByte_mergeLoadRight width _ _ inside (by omega), datumByte_mergeLoadLeft width m r inside]
  · rw [if_pos (by omega), if_pos (by omega), same aligned, show j + last - last = j + n by omega]
  · by_cases left : j + n < last + 1
    · rw [if_neg (by omega), if_pos left, if_pos left]
    · rw [if_pos (by omega), if_neg left, show j + (n - 1) - last = j + n - (last + 1) by omega]

theorem mergeLoadLeft_mergeLoadRight :
    mergeLoadLeft m (mergeLoadRight m' r last ((n + last) % (last + 1))) n = datumAt last m m' n := by
  refine eq_of_datumByte_eq width fun j inside => ?_
  rw [datumByte_datumAt width m m' inside le, datumByte_mergeLoadLeft width m _ inside]
  split
  · rfl
  · rcases last_remainder le with ⟨aligned, e⟩ | ⟨unaligned, e⟩
    · omega
    · rw [e, datumByte_mergeLoadRight width m' r inside (by omega), if_pos (by omega),
        show j + (n - 1) - last = j + n - (last + 1) by omega]

/-- The bytes of a datum that a left store writes are the first bytes of the register. -/
theorem datumByte_mergeStoreLeft_add {j : Nat} (left : j + n < last + 1) :
    datumByte last (mergeStoreLeft m r last n) (j + n) = datumByte last r j := by
  rw [datumByte_mergeStoreLeft width m r (by omega) le, if_pos (by omega), Nat.add_sub_cancel]

theorem mergeLoadLeft_mergeStoreLeft : mergeLoadLeft (mergeStoreLeft m r last n) q n =
    (r &&& ~~~(lowMask w (8 * n))) ||| (q &&& lowMask w (8 * n)) := by
  refine eq_of_datumByte_eq width fun j inside => ?_
  rw [datumByte_mergeLoadLeft width _ q inside, datumByte_or, datumByte_and_not_lowMask width r inside,
    datumByte_and_lowMask width q inside]
  split
  · rw [datumByte_mergeStoreLeft_add width m r le ‹_›]
    exact BitVec.or_zero.symm
  · exact BitVec.zero_or.symm

theorem mergeLoadLeft_mergeStoreLeft_self : mergeLoadLeft (mergeStoreLeft m r last n) r n = r := by
  refine eq_of_datumByte_eq width fun j inside => ?_
  rw [datumByte_mergeLoadLeft width _ r inside]
  split
  · exact datumByte_mergeStoreLeft_add width m r le ‹_›
  · rfl

/-- A left store puts the first bytes of the register into its datum, a right store the others into the next; where
the address is aligned the right store writes the same datum again, all of it. -/
theorem datumAt_mergeStores :
    let a := mergeStoreLeft m r last n
    let b := mergeStoreRight (if n = 0 then a else m') r last ((n + last) % (last + 1))
    datumAt last (if n = 0 then b else a) b n = r := by
  intro a b
  refine eq_of_datumByte_eq width fun j inside => ?_
  rw [datumByte_datumAt width _ b inside le]
  rcases last_remainder le with ⟨aligned, e⟩ | ⟨unaligned, e⟩
  · rw [if_pos (by omega), if_pos aligned, show b = mergeStoreRight _ r last _ from rfl, e,
      datumByte_mergeStoreRight width _ r (by omega) (Nat.le_refl last), if_pos (by omega),
      show j + n + last - last = j by omega]
  · rw [if_neg unaligned]
    split
    · exact datumByte_mergeStoreLeft_add width m r le ‹_›
    · rw [show b = mergeStoreRight _ r last _ from rfl, e,
        datumByte_mergeStoreRight width _ r (by omega) (by omega), if_pos (by omega),
        show j + n - (last + 1) + last - (n - 1) = j by omega]

end

end Sys2Proof.Machine

namespace Sys2Proof

open Machine

/-- Settles O44: the pairing of the merges at the two widths. -/
theorem leftAndRightLoadsMakeTheDatum : Obligations.LeftAndRightLoadsMakeTheDatum := by
  refine ⟨fun m m' r n less same => ?word, fun m m' r n less same => ?dword⟩
  case word =>
    have width : 32 = 8 * (3 + 1) := rfl
    have le : n ≤ 3 := Nat.le_of_lt_succ less
    exact ⟨mergeLoadRight_mergeLoadLeft width m m' r le same, mergeLoadLeft_mergeLoadRight width m m' r le,
      mergeLoadLeft_mergeStoreLeft_self width m r le, fun q => mergeLoadLeft_mergeStoreLeft width m r q le,
      datumAt_mergeStores width m m' r le⟩
  case dword =>
    have width : 64 = 8 * (7 + 1) := rfl
    have le : n ≤ 7 := Nat.le_of_lt_succ less
    exact ⟨mergeLoadRight_mergeLoadLeft width m m' r le same, mergeLoadLeft_mergeLoadRight width m m' r le,
      mergeLoadLeft_mergeStoreLeft_self width m r le, fun q => mergeLoadLeft_mergeStoreLeft width m r q le,
      datumAt_mergeStores width m m' r le⟩

end Sys2Proof
end

section
/-! PROOF. The aligned loads and stores (R341 to R348, R353 to R356, R361 to R368): an access that the alignment rule
lets through and a device covers reads or writes that device, and the instructions differ in what they make of it. -/

namespace Sys2Proof.Machine

variable {s t : State} {i : Instr} {a : Word} {va : Dword} {n off : Nat} {w : Window} {rt base : Reg} {o : Half}

/-! ## Reading (R94, R341) -/

/-- A load changes at most the counter of free values. -/
theorem loadedFrom_state (s : State) (w : Window) (off n : Nat) :
    ∃ d, (loadedFrom s w off n).2 = { s with draws := d } := by
  unfold loadedFrom
  split <;> exact ⟨_, rfl⟩

theorem loadedFrom_fr (s : State) (w : Window) (off n : Nat) : (loadedFrom s w off n).2.fr = s.fr := by
  obtain ⟨d, state⟩ := loadedFrom_state s w off n
  rw [state]
  rfl

/-- A load leaves every access where it was. -/
theorem reaches_loadedFrom {w' : Window} {off' n' : Nat} (reaches : Reaches s va n w off) :
    Reaches (loadedFrom s w' off' n').2 va n w off := by
  obtain ⟨d, state⟩ := loadedFrom_state s w' off' n'
  rw [state]
  exact reaches

theorem readThen_of_reaches {store : Bool} {k : Dword → State → Answer} (small : n ≤ scratchCapacity)
    (reaches : Reaches s va n w off) :
    readThen store s (trunc32 va) n k = k (loadedFrom s w off n).1 (loadedFrom s w off n).2 := by
  obtain ⟨pa, mapped, found, inside⟩ := reaches
  have read := routerRead_eq_some.2 ⟨w, off, found, inside, rfl⟩
  rw [readThen, memRead, if_neg (Nat.not_lt.2 small), translateAddr_eq_some.1 mapped]
  dsimp only
  rw [read]

theorem loadAligned_of_reaches {wide : Bool} {k : Dword → Dword → State → Answer} (small : n ≤ scratchCapacity)
    (op : s.op64? = some wide) (aligned : AlignedFor s (dataAddress s wide base o) n)
    (reaches : Reaches s (dataAddress s wide base o) n w off) :
    loadAligned n base o s k = k (dataAddress s wide base o) (loadedFrom s w off n).1 (loadedFrom s w off n).2 :=
  (withAddress_of_aligned op aligned).trans (readThen_of_reaches small reaches)

/-! ## Writing (R95, R341) -/

/-- The machine after `n` bytes are stored at offset `off` of a window. -/
def storedIn (s : State) (w : Window) (off n : Nat) (v : Dword) : State :=
  { s with mem := deviceWrite w.device s.mem off (bigEndianBytes n v) }

theorem storeThen_of_reaches {v : Dword} {k : State → Answer} (small : n ≤ scratchCapacity)
    (reaches : Reaches t va n w off) : storeThen s t (trunc32 va) n v k = k (storedIn t w off n v) := by
  obtain ⟨pa, mapped, found, inside⟩ := reaches
  rw [storeThen, memWrite, if_neg (Nat.not_lt.2 small), translateAddr_eq_some.1 mapped]
  dsimp only
  rw [routerWrite_of_window found inside]
  rfl

theorem codeCell_of_held {pa : Word} (mapped : translateAddr s.cfg a = some pa)
    (found : resolve s.map pa.toNat = some (w, off)) (held : off < (Device.cells w.device).2) :
    s.codeCell a = some ((Device.cells w.device).1 + off) := by
  simp only [State.codeCell, mapped, found]
  generalize w.device = d at held ⊢
  cases d with
  | ram | storage | rom => exact if_pos held
  | peripheral | placeholder => exact absurd held (Nat.not_lt_zero off)

/-- The byte at an address depends on no cell but the one that holds it. -/
theorem byteAt_congr (cfg : t.cfg = s.cfg) (map : t.map = s.map)
    (same : ∀ k, s.codeCell a = some k → Memory.read t.mem k = Memory.read s.mem k) : t.byteAt a = s.byteAt a := by
  unfold State.byteAt
  rw [cfg, map]
  cases mapped : translateAddr s.cfg a with
  | none => rfl
  | some pa =>
    cases found : resolve s.map pa.toNat with
    | none => simp only [found]
    | some hit =>
      simp only [found]
      exact deviceByte_congr fun held => same _ (codeCell_of_held mapped found held)

/-- What a store in a window leaves, `d` being the counter of free values after a read that came before it. -/
theorem stored_storedIn (wf : s.mem.wf = true) (w : Window) (off n d : Nat) (v : Dword) :
    Stored s.mem (storedIn { s with draws := d } w off n v).mem w.device off n v ∧
    OtherBytesKept s (storedIn { s with draws := d } w off n v) w.device off n := by
  have stored := stored_deviceWrite wf w.device off n v
  exact ⟨stored, fun a other => byteAt_congr rfl rfl fun k cell => stored.2 k (other k cell)⟩

/-! ## The aligned loads and stores -/

theorem gprWritten_loadedFrom (s : State) (w : Window) (off n : Nat) (r : Reg) (v : Dword) :
    GprWritten s ((loadedFrom s w off n).2.writeReg r v) r v := by
  obtain ⟨d, state⟩ := loadedFrom_state s w off n
  rw [state]
  exact gprWritten_writeReg { s with draws := d } r v

/-- A load that went through completes past its instruction, whatever else it wrote. -/
theorem advanced_loadedFrom (s : State) (w : Window) (off n : Nat) {u : State}
    (pc : u.pc = (loadedFrom s w off n).2.pc) (bu : u.bu = (loadedFrom s w off n).2.bu) : Advanced s u.advance := by
  obtain ⟨d, state⟩ := loadedFrom_state s w off n
  rw [state] at pc bu
  exact advanced_advance pc bu

theorem loadsGpr_of_run {f : Dword → Dword} (small : n ≤ scratchCapacity)
    (run : exec i s = loadAligned n base o s fun _ v t => complete (t.writeReg rt (f v))) :
    LoadsGpr i s n rt base o f := fun _ w off op aligned reaches =>
  ⟨_, run.trans (loadAligned_of_reaches small op aligned reaches), advanced_loadedFrom s w off n rfl rfl,
    gprWritten_loadedFrom s w off n rt _, rfl⟩

theorem storesBytes_of_run {v : Dword} (small : n ≤ scratchCapacity)
    (run : ∀ wide, s.op64? = some wide → AlignedFor s (dataAddress s wide base o) n →
      exec i s = storeThen s s (trunc32 (dataAddress s wide base o)) n v complete) :
    StoresBytes i s n v base o := fun wide w off op wf aligned reaches =>
  ⟨_, (run wide op aligned).trans (storeThen_of_reaches small reaches), advanced_advance rfl rfl, rfl,
    stored_storedIn wf w off n s.draws v⟩

theorem storesBytes_of_storeAligned {v : Dword} (small : n ≤ scratchCapacity)
    (run : exec i s = storeAligned n v base o s) : StoresBytes i s n v base o :=
  storesBytes_of_run small fun _ op aligned => run.trans (withAddress_of_aligned op aligned)

/-! ## The link (R361, R362) -/

theorem setLink_llAddr {pa : Word} (mapped : translateAddr s.cfg a = some pa) :
    (s.setLink a).cop0.llAddr = pa >>> 4 := by
  simp only [State.setLink, mapped]

end Sys2Proof.Machine

namespace Sys2Proof

open Machine

/-- Settles O41: each load is its access and the write of its destination, past its gates. -/
theorem alignedLoads : Obligations.AlignedLoads := by
  intro s rt base o
  refine ⟨loadsGpr_of_run (by decide) rfl, loadsGpr_of_run (by decide) rfl, loadsGpr_of_run (by decide) rfl,
    loadsGpr_of_run (by decide) rfl, loadsGpr_of_run (by decide) rfl,
    fun wide => ⟨loadsGpr_of_run (by decide) (gate64_of_wide wide),
      loadsGpr_of_run (by decide) (gate64_of_wide wide)⟩,
    fun wide w off n cu1 op aligned reaches => ?coprocessor1⟩
  have run {k : Dword → Dword → State → Answer} (small : n ≤ scratchCapacity) :
      gateCop1 s (loadAligned n base o s k) =
        k (dataAddress s wide base o) (loadedFrom s w off n).1 (loadedFrom s w off n).2 :=
    (gateCop1_of_cu1 cu1).trans (loadAligned_of_reaches small op aligned reaches)
  refine ⟨?lwc1, ?ldc1, ?odd⟩
  case lwc1 =>
    rintro rfl
    exact ⟨_, run (by decide), advanced_loadedFrom s w off 4 rfl rfl, rfl⟩
  case ldc1 =>
    rintro rfl view
    rw [← loadedFrom_fr s w off 8] at view
    exact ⟨_, (run (by decide)).trans (gateDouble_of_view view), advanced_loadedFrom s w off 8 rfl rfl, rfl⟩
  case odd =>
    rintro rfl fr odd
    exact (run (by decide)).trans (gateDouble_of_odd ((loadedFrom_fr s w off 8).trans fr) odd)

/-- Settles O42: each store is its access, past its gates; SDC1 looks at its register between the two. -/
theorem alignedStores : Obligations.AlignedStores := by
  intro s rt base o
  refine ⟨storesBytes_of_storeAligned (by decide) rfl, storesBytes_of_storeAligned (by decide) rfl,
    storesBytes_of_storeAligned (by decide) rfl,
    fun wide => storesBytes_of_storeAligned (by decide) (gate64_of_wide wide),
    fun cu1 => storesBytes_of_storeAligned (by decide) (gateCop1_of_cu1 cu1),
    fun cu1 view => storesBytes_of_run (by decide) fun wide op aligned => ?sdc1,
    fun wide cu1 op aligned fr odd => ?odd⟩
  case sdc1 =>
    exact ((gateCop1_of_cu1 cu1).trans (withAddress_of_aligned op aligned)).trans (gateDouble_of_view view)
  case odd =>
    exact ((gateCop1_of_cu1 cu1).trans (withAddress_of_aligned op aligned)).trans (gateDouble_of_odd fr odd)

/-- Settles O45: the linked loads are loads that write the link too; the conditional stores look at LLbit between the
alignment rule and the access. -/
theorem linkedLoadsAndConditionalStores : Obligations.LinkedLoadsAndConditionalStores := by
  refine ⟨fun s rt base o n i wide w off pa form op aligned reaches mapped => ?linked,
    fun s rt base o n i wide form op aligned => ?conditional⟩
  case linked =>
    have run : exec i s = loadAligned n base o s fun va v t =>
        complete ((t.writeReg rt (if n = 4 then sext64 (trunc32 v) else v)).setLink (trunc32 va)) := by
      rcases form with ⟨rfl, rfl⟩ | ⟨rfl, rfl, wide⟩
      · rfl
      · exact gate64_of_wide wide
    have small : n ≤ scratchCapacity := by rcases form with ⟨rfl, -⟩ | ⟨rfl, -⟩ <;> decide
    have written := gprWritten_loadedFrom s w off n rt
    rw [loadAligned_of_reaches small op aligned reaches] at run
    obtain ⟨d, state⟩ := loadedFrom_state s w off n
    rw [state] at run written ⊢
    refine ⟨_, run, advanced_advance rfl rfl, written _, rfl, ?_, rfl⟩
    refine (congrArg BitVec.toNat (setLink_llAddr mapped)).trans ?_
    exact toNat_ushiftRight_eq_div pa 4
  case conditional =>
    have run : exec i s = storeConditional n (s.readReg rt) rt base o s := by
      rcases form with ⟨rfl, rfl⟩ | ⟨rfl, rfl, wide⟩
      · rfl
      · exact gate64_of_wide wide
    have small : n ≤ scratchCapacity := by rcases form with ⟨rfl, -⟩ | ⟨rfl, -⟩ <;> decide
    have access := run.trans (withAddress_of_aligned op aligned)
    refine ⟨fun clear => writesGpr_of_complete (access.trans (if_neg (by rw [clear]; decide))) rfl,
      fun w off set wf reaches => ?_⟩
    exact ⟨_, (access.trans (if_pos set)).trans (storeThen_of_reaches small reaches), advanced_advance rfl rfl,
      gprWritten_writeReg (storedIn s w off n (s.readReg rt)) rt 1, rfl, stored_storedIn wf w off n s.draws _⟩

end Sys2Proof
end

section
/-! PROOF. The unaligned loads and stores (R349 to R352, R357 to R360): the access of the aligned datum that contains
the address, and the merge of R369, of which one statement says which byte goes where. -/

namespace Sys2Proof.Machine

variable {s : State} {i : Instr} {rt base : Reg} {o : Half}

/-! ## Which byte goes where -/

/-- Byte `j` of what `merge` makes of two data is byte `pick n j` of the first, or byte `j` of the second where
`pick n j` is none. -/
def MergesBytes {w : Nat} (last : Nat) (merge : BitVec w → BitVec w → Nat → BitVec w)
    (pick : Nat → Nat → Option Nat) : Prop :=
  ∀ x y n j, n ≤ last → j ≤ last →
    datumByte last (merge x y n) j = (pick n j).elim (datumByte last y j) (datumByte last x)

/-- To pick a byte where `c` holds, and none elsewhere, is to choose by `c`. -/
theorem elim_pick {c : Prop} [Decidable c] (q : Nat) (own : Byte) (byte : Nat → Byte) :
    (if c then some q else none).elim own byte = if c then byte q else own := by
  split <;> rfl

section
variable {w last : Nat} (width : w = 8 * (last + 1))
include width

theorem mergesBytes_mergeLoadLeft : MergesBytes last (mergeLoadLeft (w := w))
    (fun n j => if j + n < last + 1 then some (j + n) else none) := fun m r _ _ _ inside =>
  (datumByte_mergeLoadLeft width m r inside).trans (elim_pick _ _ _).symm

theorem mergesBytes_mergeLoadRight : MergesBytes last (fun m r : BitVec w => mergeLoadRight m r last)
    (fun n j => if last ≤ j + n then some (j + n - last) else none) := fun m r _ _ le inside =>
  (datumByte_mergeLoadRight width m r inside le).trans (elim_pick _ _ _).symm

theorem mergesBytes_mergeStoreLeft : MergesBytes last (fun r m : BitVec w => mergeStoreLeft m r last)
    (fun n j => if n ≤ j then some (j - n) else none) := fun r m _ _ le inside =>
  (datumByte_mergeStoreLeft width m r inside le).trans (elim_pick _ _ _).symm

theorem mergesBytes_mergeStoreRight : MergesBytes last (fun r m : BitVec w => mergeStoreRight m r last)
    (fun n j => if j ≤ n then some (j + last - n) else none) := fun r m _ _ le inside =>
  (datumByte_mergeStoreRight width m r inside le).trans (elim_pick _ _ _).symm

end

theorem trunc32_zext64 (x : Word) : trunc32 (zext64 x) = x := by
  rw [trunc32, zext64, BitVec.setWidth_setWidth_of_le x (by decide), BitVec.setWidth_eq]

/-- A merge of low words, extended, is a merge of doublewords in their word bytes. -/
theorem MergesBytes.ofWord {merge : Word → Word → Nat → Word} {pick : Nat → Nat → Option Nat} {extend : Word → Dword}
    (merges : MergesBytes 3 merge pick) (low : ∀ x, trunc32 (extend x) = x) :
    MergesBytes 3 (fun x y n => extend (merge (trunc32 x) (trunc32 y) n)) pick := fun x y n j le inside => by
  rw [← datumByte_trunc32, low, merges _ _ n j le inside, datumByte_trunc32, funext (datumByte_trunc32 x)]

/-! ## The access of a datum -/

section
variable {last : Nat} {pick : Nat → Nat → Option Nat} {merge : Dword → Dword → Nat → Dword}

theorem MergesBytes.byteOf_merge (merges : MergesBytes last merge pick) (x y : Dword) (n : Nat) :
    ∀ j, j < last + 1 → byteOf (last + 1) (merge x y (n % (last + 1))) j =
      match pick (n % (last + 1)) j with
      | some q => byteOf (last + 1) x q
      | none => byteOf (last + 1) y j := fun j inside => by
  have byte := merges x y _ j (Nat.le_of_lt_succ (Nat.mod_lt n (Nat.succ_pos last))) (Nat.le_of_lt_succ inside)
  split <;> rename_i picked <;> rw [picked] at byte <;> exact byte

theorem loadsMerged_of_run (small : last + 1 ≤ scratchCapacity)
    (run : ∀ wide va, s.op64? = some wide → va = dataAddress s wide base o →
      exec i s = loadThen s (trunc32 (va - BitVec.ofNat 64 (va.toNat % (last + 1)))) (last + 1) fun m t =>
        complete (t.writeReg rt (merge m (s.readReg rt) (va.toNat % (last + 1)))))
    (word : last + 1 = 4 → ∀ m r n, merge m r n = sext64 (trunc32 (merge m r n)))
    (merges : MergesBytes last merge pick) :
    LoadsMerged i s (last + 1) rt base o pick := fun wide w off op reaches =>
  ⟨_, _, (run wide _ op rfl).trans (readThen_of_reaches small reaches), advanced_loadedFrom s w off _ rfl rfl,
    gprWritten_loadedFrom s w off _ rt _, fun four => word four _ _ _, merges.byteOf_merge _ _ _, rfl⟩

theorem storesMerged_of_run (small : last + 1 ≤ scratchCapacity)
    (run : ∀ wide va a, s.op64? = some wide → va = dataAddress s wide base o →
      a = trunc32 (va - BitVec.ofNat 64 (va.toNat % (last + 1))) →
      exec i s = readThen true s a (last + 1) fun m t =>
        storeThen s t a (last + 1) (merge (s.readReg rt) m (va.toNat % (last + 1))) complete)
    (merges : MergesBytes last merge pick) : StoresMerged i s (last + 1) rt base o pick := by
  intro wide w off op wf reaches
  have access := ((run wide _ _ op rfl rfl).trans (readThen_of_reaches small reaches)).trans
    (storeThen_of_reaches small (reaches_loadedFrom reaches))
  obtain ⟨d, state⟩ := loadedFrom_state s w off (last + 1)
  rw [state] at access ⊢
  exact ⟨_, _, access, advanced_advance rfl rfl, merges.byteOf_merge _ _ _, rfl,
    stored_storedIn wf w off _ d _⟩

end

theorem loadsMerged_of_word {merge : Word → Word → Nat → Word} {pick : Nat → Nat → Option Nat}
    (merges : MergesBytes 3 merge pick) (run : exec i s = loadMergedWord merge rt base o s) :
    LoadsMerged i s 4 rt base o pick := by
  refine loadsMerged_of_run (last := 3) (by decide) (fun wide va op address => ?_)
    (fun _ _ _ _ => (congrArg sext64 (trunc32_sext64 _)).symm) (merges.ofWord trunc32_sext64)
  rw [run, loadMergedWord, withOp64_of_some op, ← wordBase_eq, address]
  rfl

theorem loadsMerged_of_dword {merge : Dword → Dword → Nat → Dword} {pick : Nat → Nat → Option Nat}
    (merges : MergesBytes 7 merge pick) (run : exec i s = loadMergedDword merge rt base o s) :
    LoadsMerged i s 8 rt base o pick := by
  refine loadsMerged_of_run (last := 7) (by decide) (fun wide va op address => ?_) nofun merges
  rw [run, loadMergedDword, withOp64_of_some op, ← dwordBase_eq, address]
  rfl

theorem storesMerged_of_word {merge : Word → Word → Nat → Word} {pick : Nat → Nat → Option Nat}
    (merges : MergesBytes 3 (fun r m => merge m r) pick) (run : exec i s = storeMergedWord merge rt base o s) :
    StoresMerged i s 4 rt base o pick := by
  refine storesMerged_of_run (last := 3) (by decide) (fun wide va a op address datum => ?_)
    (merges.ofWord trunc32_zext64)
  rw [run, storeMergedWord, withOp64_of_some op, datum, ← wordBase_eq, address]
  rfl

theorem storesMerged_of_dword {merge : Dword → Dword → Nat → Dword} {pick : Nat → Nat → Option Nat}
    (merges : MergesBytes 7 (fun r m => merge m r) pick) (run : exec i s = storeMergedDword merge rt base o s) :
    StoresMerged i s 8 rt base o pick := by
  refine storesMerged_of_run (last := 7) (by decide) (fun wide va a op address datum => ?_) merges
  rw [run, storeMergedDword, withOp64_of_some op, datum, ← dwordBase_eq, address]
  rfl

end Sys2Proof.Machine

namespace Sys2Proof

open Machine

/-- Settles O43: each unaligned form is the access of its datum with its merge, the doubleword forms past their
gate. -/
theorem unalignedLoadsAndStores : Obligations.UnalignedLoadsAndStores := by
  have word : 32 = 8 * (3 + 1) := rfl
  have dword : 64 = 8 * (7 + 1) := rfl
  refine ⟨fun s rt base o => ?loads, fun s rt base o => ?stores⟩
  case loads =>
    exact ⟨loadsMerged_of_word (mergesBytes_mergeLoadLeft word) rfl,
      loadsMerged_of_word (mergesBytes_mergeLoadRight word) rfl,
      fun wide => ⟨loadsMerged_of_dword (mergesBytes_mergeLoadLeft dword) (gate64_of_wide wide),
        loadsMerged_of_dword (mergesBytes_mergeLoadRight dword) (gate64_of_wide wide)⟩⟩
  case stores =>
    exact ⟨storesMerged_of_word (mergesBytes_mergeStoreLeft word) rfl,
      storesMerged_of_word (mergesBytes_mergeStoreRight word) rfl,
      fun wide => ⟨storesMerged_of_dword (mergesBytes_mergeStoreLeft dword) (gate64_of_wide wide),
        storesMerged_of_dword (mergesBytes_mergeStoreRight dword) (gate64_of_wide wide)⟩⟩

end Sys2Proof
end

section
/-! PROOF. System instructions: ERET, SYSCALL, BREAK, SYNC, CACHE and the twelve conditional traps (R450 to R470). -/

namespace Sys2Proof.Machine

variable {s : State} {i : Instr} {c : Bool} {p : Prop}

/-! ## Returning from an exception (R450) -/

theorem exec_eret (usable : Cop0Usable s) (outside : s.bu.branchDelayPending = false) :
    exec .eret s = .next s.returnFromException :=
  (gateCop0_of_usable usable).trans (outsideDelaySlot_of_not_pending outside)

/-! ## Conditional traps (R459 to R470) -/

/-- An instruction that is a `trapWhen` traps on the proposition its test decides. -/
theorem trapsWhen_of_run (run : exec i s = trapWhen c s) (test : c = true ↔ p) : TrapsWhen i s p := by
  constructor
  · intro holds
    rw [test.mpr holds] at run
    exact run
  · intro fails
    rw [Bool.eq_false_iff.mpr (mt test.mp fails)] at run
    exact onlyAdvances_of_complete run

theorem signedLess64_iff {a b : Dword} : signedLess64 a b = true ↔ a.toInt < b.toInt := decide_eq_true_iff

theorem unsignedLess64_iff {a b : Dword} : unsignedLess64 a b = true ↔ a.toNat < b.toNat := decide_eq_true_iff

theorem not_signedLess64_iff {a b : Dword} : (!signedLess64 a b) = true ↔ b.toInt ≤ a.toInt := by
  rw [Bool.not_eq_true', ← Bool.not_eq_true, signedLess64_iff, Int.not_lt]

theorem not_unsignedLess64_iff {a b : Dword} : (!unsignedLess64 a b) = true ↔ b.toNat ≤ a.toNat := by
  rw [Bool.not_eq_true', ← Bool.not_eq_true, unsignedLess64_iff, Nat.not_lt]

theorem toInt_sext64_half (imm : Half) : (sext64 imm).toInt = imm.toInt := BitVec.toInt_signExtend_of_le (by decide)

/-- The sign-extended immediate read as an unsigned number (R466, R468). -/
theorem toNat_sext64_half {imm : Half} {n : Nat} (value : (n : Int) = imm.toInt % 2 ^ 64) : (sext64 imm).toNat = n := by
  have small := (sext64 imm).isLt
  have wraps := Int.bmod_emod (x := (sext64 imm).toNat) (m := 2 ^ 64)
  rw [← toInt_sext64_half, BitVec.toInt_eq_toNat_bmod] at value
  omega

end Sys2Proof.Machine

namespace Sys2Proof

open Machine

/-- Settles O16: past its two gates ERET is the return, whose error level comes first. -/
theorem eretReturns : Obligations.EretReturns := by
  intro s usable outside
  refine ⟨_, exec_eret usable outside, fun erl => ?_, fun erl => ?_, rfl, rfl, rfl, rfl⟩
  · rw [State.returnFromException_pc, returnFromException_status, erl]
    exact ⟨rfl, rfl⟩
  · rw [State.returnFromException_pc, returnFromException_status, erl]
    exact ⟨rfl, rfl⟩

/-- Settles O59: SYSCALL and BREAK are raises as they stand, SYNC completes, and CACHE does past its gate. -/
theorem systemCallsSyncAndCache : Obligations.SystemCallsSyncAndCache :=
  ⟨fun _ _ => ⟨rfl, rfl⟩, fun _ _ _ _ => ⟨onlyAdvances_of_complete rfl, fun usable =>
    onlyAdvances_of_complete (gateCop0_of_usable usable)⟩⟩

/-- Settles O60: each trap is a `trapWhen`, with a test that decides its condition on all 64 bits. -/
theorem conditionalTraps : Obligations.ConditionalTraps := by
  rintro s rs rt code imm _ _ _ _ _ ui rfl rfl rfl rfl rfl unsigned
  rw [← toNat_sext64_half unsigned, ← toInt_sext64_half imm]
  have equal {a b : Dword} : decide (a = b) = true ↔ a.toInt = b.toInt := decide_eq_true_iff.trans BitVec.toInt_inj.symm
  have unequal {a b : Dword} : decide (a ≠ b) = true ↔ a.toInt ≠ b.toInt :=
    decide_eq_true_iff.trans (not_congr BitVec.toInt_inj.symm)
  exact ⟨trapsWhen_of_run rfl not_signedLess64_iff, trapsWhen_of_run rfl not_unsignedLess64_iff,
    trapsWhen_of_run rfl signedLess64_iff, trapsWhen_of_run rfl unsignedLess64_iff,
    trapsWhen_of_run rfl equal, trapsWhen_of_run rfl unequal,
    trapsWhen_of_run rfl not_signedLess64_iff, trapsWhen_of_run rfl not_unsignedLess64_iff,
    trapsWhen_of_run rfl signedLess64_iff, trapsWhen_of_run rfl unsignedLess64_iff,
    trapsWhen_of_run rfl equal, trapsWhen_of_run rfl unequal⟩

end Sys2Proof
end

section
/-! PROOF. Taking an exception and returning (R450, R480, R505 to R508): the vector of each event, what a dispatch does to
Cause and Status, and the return that undoes it. -/

namespace Sys2Proof.Machine

/-! ## Codes and vectors (R480, R505, R506) -/

theorem ce_of_other {e : Exc} (other : ∀ n, e ≠ .coprocessorUnusable n) : (Event.sync e).ce = 0 := by
  cases e
  case coprocessorUnusable n => exact absurd rfl (other n)
  all_goals rfl

section
variable {s : State} {ev : Event}

theorem vector_eq (other : ev ≠ .nmi) : s.vector ev =
    if s.cfg.directVector then ev.offset s.exl
    else (if s.bev then vecBaseBoot else vecBaseRam) + ev.offset s.exl := by
  cases ev
  case nmi => exact absurd rfl other
  all_goals rfl

theorem offset_general {exl : Bool} (nmi : ev ≠ .nmi) (cacheError : ev ≠ .cacheError)
    (general : exl = true ∨ ((∀ w, ev ≠ .sync (.tlbRefill w)) ∧ ∀ w, ev ≠ .xtlbRefill w)) :
    ev.offset exl = 0x180 := by
  cases ev with
  | nmi => exact absurd rfl nmi
  | cacheError => exact absurd rfl cacheError
  | xtlbRefill w =>
    rcases general with set | ⟨-, other⟩
    · exact if_pos set
    · exact absurd rfl (other w)
  | interrupt => rfl
  | sync e =>
    cases e
    case tlbRefill w =>
      rcases general with set | ⟨other, -⟩
      · exact if_pos set
      · exact absurd rfl (other w)
    all_goals rfl

/-! ## What a dispatch records (R507, R508) -/

theorem savedUnit_eq (s : State) : savedUnit s = s.bu.saved := by
  unfold savedUnit BranchUnit.saved
  split <;> rfl

theorem errorLevel_of_other (nmi : ev ≠ .nmi) (cacheError : ev ≠ .cacheError) : ev.errorLevel = false := by
  cases ev
  case nmi => exact absurd rfl nmi
  case cacheError => exact absurd rfl cacheError
  all_goals rfl

theorem takeException_errorEpc_of_errorLevel (level : ev.errorLevel = true) :
    (s.takeException ev).cop0.errorEpc = backedUpAddress s := if_pos level

theorem takeException_snapshot_of_records (records : s.recordsReturn ev = true) :
    (s.takeException ev).snapshot = savedUnit s := (if_pos records).trans (savedUnit_eq s).symm

theorem recordsReturn_of_errorLevel (level : ev.errorLevel = true) : s.recordsReturn ev = true := by
  rw [State.recordsReturn, level, Bool.true_or]

theorem recordsReturn_of_exl_set (level : ev.errorLevel = false) (exl : s.exl = true) : s.recordsReturn ev = false := by
  rw [State.recordsReturn, level, exl]
  rfl

theorem causeAfter_of_errorLevel (level : ev.errorLevel = true) :
    s.causeAfter ev = setBit s.cop0.cause 31 s.bu.branchDelayPending := by
  rw [State.causeAfter, if_pos (recordsReturn_of_errorLevel level), if_pos level]

theorem statusAfter_of_errorLevel (level : ev.errorLevel = true) : s.statusAfter ev = s.cop0.status ||| 4#32 :=
  if_pos level

theorem takeException_erl (level : ev.errorLevel = true) : (s.takeException ev).erl = true := by
  rw [State.erl, takeException_status, State.statusAfter, if_pos level, getLsbD_setBit _ _ _ _ (by decide), if_pos rfl]

section
variable (level : ev.errorLevel = false)
include level

theorem statusAfter_of_exceptionLevel : s.statusAfter ev = s.cop0.status ||| 2#32 :=
  if_neg (Bool.eq_false_iff.mp level)

theorem causeAfter_ce : (s.causeAfter ev).extractLsb' 28 2 = ev.ce := by
  unfold State.causeAfter
  dsimp only
  rw [if_neg (Bool.eq_false_iff.mp level)]
  apply BitVec.eq_of_getLsbD_eq
  intro j hj
  rw [BitVec.getLsbD_extractLsb', getLsbD_mergeMask]
  interval_cases j <;> simp

/-- Outside ExcCode and CE only BD may be written, where a return address is recorded. -/
theorem causeAfter_getLsbD_of_unmasked {k : Nat} (unmasked : (0x3000007C#32).getLsbD k = false) :
    (s.causeAfter ev).getLsbD k =
      if s.recordsReturn ev = true ∧ k = 31 then s.bu.branchDelayPending else s.cop0.cause.getLsbD k := by
  unfold State.causeAfter
  dsimp only
  rw [if_neg (Bool.eq_false_iff.mp level), getLsbD_mergeMask, if_neg (Bool.eq_false_iff.mp unmasked)]
  cases s.recordsReturn ev
  · simp
  · simp [getLsbD_setBit]

theorem causeAfter_kept {k : Nat} (other : k < 2 ∨ (6 < k ∧ k < 28) ∨ k = 30) :
    (s.causeAfter ev).getLsbD k = s.cop0.cause.getLsbD k := by
  rw [causeAfter_getLsbD_of_unmasked level, if_neg (by omega)]
  have small : k < 31 := by omega
  revert other
  interval_cases k <;> decide

end

/-! ## The chosen request is cleared (R507) -/

theorem pending_after_nmi (p : Pending) : (p.after ev).nmi = if ev = .nmi then false else p.nmi := by
  cases ev <;> rfl

theorem pending_after_cacheErr (p : Pending) : (p.after ev).cacheErr = if ev = .cacheError then false else p.cacheErr := by
  cases ev <;> rfl

theorem pending_after_sync (p : Pending) : (p.after ev).sync = none := by
  cases ev <;> rfl

theorem pending_after_xtlb_of_other (p : Pending) (other : ∀ w, ev ≠ .xtlbRefill w) : (p.after ev).xtlb = p.xtlb := by
  cases ev
  case xtlbRefill w => exact absurd rfl (other w)
  all_goals rfl

theorem dispatchKeeps_takeException (s : State) (ev : Event) : DispatchKeeps s (s.takeException ev) := by
  cases ev <;> rfl

/-! ## The return undoes the dispatch (R450) -/

theorem setBit_setBit_clear {w : Word} {i : Nat} (small : i < 32) (clear : w.getLsbD i = false) :
    setBit (setBit w i true) i false = w := by
  apply BitVec.eq_of_getLsbD_eq
  intro j _
  rw [getLsbD_setBit _ _ _ _ small]
  split
  · subst j
    exact clear.symm
  · rw [getLsbD_setBit _ _ _ _ small, if_neg ‹_›]

theorem takeException_erl_of_exceptionLevel (level : ev.errorLevel = false) : (s.takeException ev).erl = s.erl := by
  rw [State.erl, takeException_status, State.statusAfter, if_neg (Bool.eq_false_iff.mp level),
    getLsbD_setBit _ _ _ _ (by decide), if_neg (by decide)]
  rfl

/-- With EXL = ERL = 0 the return reads the register the dispatch wrote, and clears the bit it set. -/
theorem return_takeException (ev : Event) (exl : s.exl = false) (erl : s.erl = false) :
    (s.takeException ev).returnFromException.pc = backedUpAddress s ∧
    (s.takeException ev).returnFromException.cop0.status = s.cop0.status := by
  rw [State.returnFromException_pc, returnFromException_status, takeException_status, State.statusAfter]
  cases level : ev.errorLevel
  · rw [takeException_erl_of_exceptionLevel level, erl]
    exact ⟨takeException_epc_of_exl_clear level exl, setBit_setBit_clear (by decide) exl⟩
  · rw [takeException_erl level]
    exact ⟨takeException_errorEpc_of_errorLevel level, setBit_setBit_clear (by decide) erl⟩

end

end Sys2Proof.Machine

namespace Sys2Proof

open Machine

/-- Settles O14: the codes and CE are read off the table; every vector but that of NMI is a base and the offset of the
class. -/
theorem exceptionCodesAndVectors : Obligations.ExceptionCodesAndVectors := by
  refine ⟨⟨rfl, fun _ => rfl, fun _ => rfl, rfl, rfl, rfl, rfl, rfl, fun _ => rfl, rfl, rfl, rfl, rfl, rfl, rfl, rfl,
    fun _ => rfl, rfl, fun e => ce_of_other⟩, fun s => rfl, fun s ev offset nmi place => ?_, fun s ev => rfl⟩
  have value : ev.offset s.exl = offset := by
    rcases place with ⟨rfl, exl, w, rfl⟩ | ⟨rfl, exl, w, rfl⟩ | ⟨rfl, rfl⟩ | ⟨rfl, cacheError, general⟩
    · rw [exl]; rfl
    · rw [exl]; rfl
    · rfl
    · exact offset_general nmi cacheError general
  rw [vector_eq nmi, value]
  refine ⟨fun direct => if_pos direct, fun based bev => ?_, fun based bev => ?_⟩ <;> rw [based, bev] <;> rfl

/-- Settles O13: the two classes, each with what it writes of EPC, ErrorEPC, Cause, Status and the requests. -/
theorem dispatchBookkeeping : Obligations.DispatchBookkeeping := by
  constructor
  · rintro s _ ev nmi cacheError rfl
    have level := errorLevel_of_other nmi cacheError
    refine ⟨fun exl => ?_, fun exl => ?_, causeAfter_code level, causeAfter_ce level, fun k => causeAfter_kept level,
      statusAfter_of_exceptionLevel level, if_neg (Bool.eq_false_iff.mp level), rfl, rfl, pending_after_sync _,
      (pending_after_nmi _).trans (if_neg nmi), (pending_after_cacheErr _).trans (if_neg cacheError), ?_,
      pending_after_xtlb_of_other _, mode?_kernel (.inl (takeException_exl level)), dispatchKeeps_takeException s ev⟩
    · have records := recordsReturn_of_exl_clear (ev := ev) exl
      exact ⟨takeException_epc_of_exl_clear level exl, causeAfter_bd records, takeException_snapshot_of_records records⟩
    · have skips := recordsReturn_of_exl_set level exl
      refine ⟨if_pos (by rw [exl, Bool.or_true]), ?_, if_neg (Bool.eq_false_iff.mp skips)⟩
      exact (causeAfter_getLsbD_of_unmasked level (by decide)).trans (if_neg (by rw [skips]; decide))
    · rintro w rfl
      rfl
  · rintro s _ ev error rfl
    have level : ev.errorLevel = true := by rcases error with rfl | rfl <;> rfl
    have cause {k : Nat} : (s.causeAfter ev).getLsbD k =
        if k = 31 then s.bu.branchDelayPending else s.cop0.cause.getLsbD k := by
      rw [causeAfter_of_errorLevel level, getLsbD_setBit _ _ _ _ (by decide)]
    refine ⟨takeException_errorEpc_of_errorLevel level,
      takeException_snapshot_of_records (recordsReturn_of_errorLevel level), cause, fun k other => cause.trans (if_neg other),
      statusAfter_of_errorLevel level, if_pos (by rw [level, Bool.true_or]), rfl, rfl, pending_after_sync _, ?_, ?_, ?_,
      mode?_kernel (.inr (.inl (takeException_erl level))), dispatchKeeps_takeException s ev⟩
    · rcases error with rfl | rfl <;> rfl
    · rintro rfl
      exact ⟨rfl, rfl⟩
    · rintro rfl
      exact ⟨rfl, rfl⟩

/-- Settles O17: the place and Status come back, so the mode does, and the branch unit is the one that was saved. -/
theorem returnUndoesTheDispatch : Obligations.ReturnUndoesTheDispatch := by
  intro s ev exl erl
  obtain ⟨pc, status⟩ := return_takeException ev exl erl
  exact ⟨pc, status, takeException_snapshot_of_records (recordsReturn_of_exl_clear exl), mode?_of_status status, rfl, rfl,
    rfl, rfl, rfl, rfl, rfl⟩

end Sys2Proof
end

section
/-! PROOF. The tick (R489 to R497): the timer over one period, the sampled inputs, and the choice of one event. -/

namespace Sys2Proof.Machine

variable {s : State} {ev : Event}

/-! ## The timer and the pending bits over a tick (R490, R491) -/

@[simp] theorem tick_count (s : State) :
    s.tick.cop0.count = if s.timerMatches then 0 else s.cop0.count + 1 := by
  rcases tick_cases s with h | ⟨_, _, h⟩ <;> rw [h] <;> rfl

@[simp] theorem tick_compare (s : State) : s.tick.cop0.compare = s.cop0.compare := by
  rcases tick_cases s with h | ⟨_, _, h⟩ <;> rw [h] <;> rfl

/-- A dispatch leaves the interrupt bits of Cause (R507). -/
theorem causeAfter_interior {k : Nat} (inside : 6 < k ∧ k < 28) :
    (s.causeAfter ev).getLsbD k = s.cop0.cause.getLsbD k := by
  cases level : ev.errorLevel
  · exact causeAfter_kept level (.inr (.inl inside))
  · rw [causeAfter_of_errorLevel level, getLsbD_setBit _ _ _ _ (by decide), if_neg (by omega)]

/-- The interior bits of Cause are the timer's and the inputs' alone. -/
theorem tick_cause_getLsbD {k : Nat} (inside : 6 < k ∧ k < 28) : s.tick.cop0.cause.getLsbD k =
    if k = 12 then s.inputs.resetButton else if k = 10 then s.inputs.extLine
    else if k = 15 then s.timerMatches || s.cop0.cause.getLsbD 15 else s.cop0.cause.getLsbD k := by
  have sampled : s.timer.sampleInputs.cop0.cause.getLsbD k =
      if k = 12 then s.inputs.resetButton else if k = 10 then s.inputs.extLine else s.timer.cop0.cause.getLsbD k := by
    simp only [State.sampleInputs, getLsbD_setBit _ _ _ _ (show 12 < 32 by decide),
      getLsbD_setBit _ _ _ _ (show 10 < 32 by decide)]
    rfl
  have timed : s.timer.cop0.cause.getLsbD k =
      if k = 15 then s.timerMatches || s.cop0.cause.getLsbD 15 else s.cop0.cause.getLsbD k := by
    simp only [State.timer]
    cases s.timerMatches
    · rw [if_neg Bool.false_ne_true, Bool.false_or]
      split
      · rename_i e
        rw [e]
      · rfl
    · rw [if_pos rfl, getLsbD_setBit _ _ _ _ (by decide), Bool.true_or]
  rw [← timed, ← sampled]
  rcases tick_cases s with h | ⟨ev, -, h⟩ <;> rw [h]
  exact causeAfter_interior inside

theorem tick_ip_getLsbD {k : Nat} (small : k < 8) : s.tick.ip.getLsbD k = s.tick.cop0.cause.getLsbD (8 + k) := by
  simp [State.ip, small]

theorem timerMatches_iff : s.timerMatches = true ↔ s.cop0.compare ≠ 0 ∧ s.cop0.count + 1 = s.cop0.compare :=
  decide_eq_true_iff

theorem timerMatches_eq_false (quiet : s.cop0.compare = 0 ∨ s.cop0.count + 1 ≠ s.cop0.compare) :
    s.timerMatches = false := by
  rw [← Bool.not_eq_true, timerMatches_iff]
  tauto

/-! ## A period of the timer (R490) -/

theorem iterate_tick_compare (n : Nat) : (State.tick^[n] s).cop0.compare = s.cop0.compare := by
  induction n with
  | zero => rfl
  | succ n ih => rw [Function.iterate_succ_apply', tick_compare, ih]

/-- Below Compare the ticks count. -/
theorem iterate_tick_count (start : s.cop0.count = 0) (n : Nat) (below : n < s.cop0.compare.toNat) :
    (State.tick^[n] s).cop0.count.toNat = n := by
  induction n with
  | zero => exact congrArg BitVec.toNat start
  | succ n ih =>
    have count := ih (by omega)
    have next : ((State.tick^[n] s).cop0.count + 1).toNat = n + 1 := by
      rw [BitVec.toNat_add, count]
      exact Nat.mod_eq_of_lt (below.trans (BitVec.isLt _))
    have quiet : (State.tick^[n] s).timerMatches = false := by
      refine timerMatches_eq_false (.inr fun matched => ?_)
      rw [iterate_tick_compare] at matched
      rw [matched] at next
      omega
    rw [Function.iterate_succ_apply', tick_count, quiet]
    exact next

/-- The tick that reaches Compare matches. -/
theorem iterate_tick_timerMatches (start : s.cop0.count = 0) {n : Nat} (last : n + 1 = s.cop0.compare.toNat) :
    (State.tick^[n] s).timerMatches = true := by
  rw [timerMatches_iff, iterate_tick_compare]
  have count := iterate_tick_count start n (by omega)
  refine ⟨fun zero => by simp [zero] at last, BitVec.eq_of_toNat_eq ?_⟩
  rw [BitVec.toNat_add, count, ← last]
  exact Nat.mod_eq_of_lt (last ▸ BitVec.isLt _)

theorem tick_of_timerMatches (matched : s.timerMatches = true) :
    s.tick.cop0.count = 0 ∧ s.tick.cop0.cause.getLsbD 15 = true := by
  rw [tick_count, tick_cause_getLsbD (by decide), matched]
  exact ⟨rfl, rfl⟩

/-! ## The choice of one event (R495, R497) -/

theorem tick_of_chosen (chosen : s.timer.sampleInputs.chooseEvent = some ev) :
    s.tick = s.timer.sampleInputs.takeException ev := by
  rw [State.tick, chosen]

theorem tick_of_none (chosen : s.timer.sampleInputs.chooseEvent = none) : s.tick = s.timer.sampleInputs := by
  rw [State.tick, chosen]

section
variable (nmi : s.pending.nmi = false) (xtlb : s.pending.xtlb = false) (cacheErr : s.pending.cacheErr = false)

theorem chooseEvent_nmi (nmi : s.pending.nmi = true) : s.chooseEvent = some .nmi := if_pos nmi

include nmi

theorem chooseEvent_xtlb (xtlb : s.pending.xtlb = true) :
    s.chooseEvent = some (.xtlbRefill s.pending.xtlbStore) := by
  rw [State.chooseEvent, nmi, xtlb]
  rfl

include xtlb

theorem chooseEvent_cacheError (cacheErr : s.pending.cacheErr = true) : s.chooseEvent = some .cacheError := by
  rw [State.chooseEvent, nmi, xtlb, cacheErr]
  rfl

include cacheErr

theorem chooseEvent_sync {e : Exc} (sync : s.pending.sync = some e) : s.chooseEvent = some (.sync e) := by
  rw [State.chooseEvent, nmi, xtlb, cacheErr, sync]
  rfl

theorem chooseEvent_interrupt (sync : s.pending.sync = none) :
    s.chooseEvent = if s.interruptCondition then some .interrupt else none := by
  rw [State.chooseEvent, nmi, xtlb, cacheErr, sync]
  rfl

end

theorem byte_ne_zero_iff {b : Byte} : b ≠ 0 ↔ ∃ k, k < 8 ∧ b.getLsbD k = true := by
  constructor
  · intro nonzero
    by_contra none
    push Not at none
    exact nonzero (BitVec.eq_of_getLsbD_eq fun k hk => by simpa using none k hk)
  · rintro ⟨k, -, set⟩ rfl
    simp at set

theorem interruptCondition_iff : s.interruptCondition = true ↔ s.ie = true ∧ s.exl = false ∧ s.erl = false ∧
    ∃ k, k < 8 ∧ s.ip.getLsbD k = true ∧ s.im.getLsbD k = true := by
  have masked := byte_ne_zero_iff (b := s.ip &&& s.im)
  simp only [BitVec.getLsbD_and, Bool.and_eq_true] at masked
  rw [State.interruptCondition, Bool.and_eq_true, Bool.and_eq_true, Bool.and_eq_true, Bool.not_eq_true',
    Bool.not_eq_true', decide_eq_true_iff, masked]
  tauto

theorem sync_of_chooseEvent_none (none : s.chooseEvent = none) : s.pending.sync = .none := by
  unfold State.chooseEvent at none
  cases sync : s.pending.sync with
  | none => rfl
  | some e =>
    rw [sync] at none
    split_ifs at none

/-- A pending synchronous exception is dropped by the dispatch it leads to, or by the one before it. -/
theorem tick_sync (s : State) : s.tick.pending.sync = none := by
  cases choice : s.timer.sampleInputs.chooseEvent with
  | none => rw [tick_of_none choice, sync_of_chooseEvent_none choice]
  | some ev =>
    rw [tick_of_chosen choice]
    exact pending_after_sync _

end Sys2Proof.Machine

namespace Sys2Proof

open Machine

/-- Settles O11: the timer and the inputs act on fields that no dispatch of the same tick touches. -/
theorem tickTimerAndInputs : Obligations.TickTimerAndInputs := by
  refine ⟨⟨fun s nonzero reached => tick_of_timerMatches (timerMatches_iff.mpr ⟨nonzero, reached⟩), fun s quiet => ?_,
    tick_compare, fun s n start below => ⟨iterate_tick_count start n below, fun last => ?_⟩⟩, fun s => ?_⟩
  · rw [tick_count, tick_cause_getLsbD (by decide), timerMatches_eq_false quiet]
    exact ⟨rfl, rfl⟩
  · rw [Function.iterate_succ_apply']
    exact tick_of_timerMatches (iterate_tick_timerMatches start last)
  · refine ⟨?_, ?_, fun k small not2 not4 => ?_, fun requested => ?_⟩
    · rw [tick_ip_getLsbD (by decide), tick_cause_getLsbD (by decide)]
      rfl
    · rw [tick_ip_getLsbD (by decide), tick_cause_getLsbD (by decide)]
      rfl
    · rw [tick_ip_getLsbD (by omega), tick_cause_getLsbD (by omega), if_neg (by omega), if_neg (by omega),
        if_neg (by omega)]
      simp [State.ip, show k < 8 by omega]
    · have chosen : s.timer.sampleInputs.chooseEvent = some .nmi :=
        chooseEvent_nmi ((congrArg _ requested).trans (Bool.or_true _))
      rw [tick_of_chosen chosen]
      exact ⟨rfl, takeException_erl rfl, rfl⟩

/-- Settles O12: the choice of the event after the timer and the sampling, one arm for each class. -/
theorem oneEventInPriorityOrder : Obligations.OneEventInPriorityOrder := by
  rintro s _ rfl
  refine ⟨⟨rfl, rfl, rfl, rfl⟩, fun nmi => tick_of_chosen (chooseEvent_nmi nmi),
    fun nmi xtlb => tick_of_chosen (chooseEvent_xtlb nmi xtlb),
    fun nmi xtlb cacheErr => tick_of_chosen (chooseEvent_cacheError nmi xtlb cacheErr),
    fun e nmi xtlb cacheErr sync => tick_of_chosen (chooseEvent_sync nmi xtlb cacheErr sync),
    fun nmi xtlb cacheErr sync => ?_, tick_sync s⟩
  have choice := chooseEvent_interrupt nmi xtlb cacheErr sync
  constructor
  · rintro ⟨ie, exl, erl, k, low, ip, im⟩
    have condition : s.timer.sampleInputs.interruptCondition = true :=
      interruptCondition_iff.mpr ⟨ie, exl, erl, k, low, ip, im⟩
    exact tick_of_chosen (choice.trans (if_pos condition))
  · intro masked
    refine tick_of_none (choice.trans (if_neg fun condition => ?_))
    obtain ⟨ie, exl, erl, k, low, ip, im⟩ := interruptCondition_iff.mp condition
    rcases masked with noIe | isExl | isErl | none
    · exact absurd (noIe.symm.trans ie) (by decide)
    · exact absurd (isExl.symm.trans exl) (by decide)
    · exact absurd (isErl.symm.trans erl) (by decide)
    · exact absurd ((none k low ip).symm.trans im) (by decide)

end Sys2Proof
end

section
/-! PROOF. Coprocessor 2 and the floating-point functions in a format they do not take (R433, R471): the words that decode
to each, and what running it does. -/

namespace Sys2Proof

open Machine

/-! ## The words (R127, R133) -/

/-- A row of the opcode table or Reserved: all that the maps of SPECIAL, REGIMM, COP0 and BC1 hold. -/
def Decoded.isRowOrReserved : Decoded → Bool
  | .instr _ => true
  | .reserved => true
  | .fpUnimplementedFormat => false
  | .cop2 => false

section
variable {w : Word}

theorem Decoded.ne_of_isRowOrReserved {d e : Decoded} (row : d.isRowOrReserved = true)
    (other : e.isRowOrReserved = false) : d ≠ e := by
  rintro rfl
  exact absurd (row.symm.trans other) (by decide)

theorem decodeSpecial_isRowOrReserved (w : Word) : (decodeSpecial w).isRowOrReserved = true := by
  unfold decodeSpecial
  split <;> rfl

theorem decodeRegimm_isRowOrReserved (w : Word) : (decodeRegimm w).isRowOrReserved = true := by
  unfold decodeRegimm
  split <;> rfl

theorem decodeCop0_isRowOrReserved (w : Word) : (decodeCop0 w).isRowOrReserved = true := by
  unfold decodeCop0 decodeCop0Function decodeCop0Move
  split <;> split <;> rfl

theorem decodeBc1_isRowOrReserved (w : Word) : (decodeBc1 w).isRowOrReserved = true := by
  unfold decodeBc1
  split <;> rfl

/-- Only the maps of the four formats hold anything else in COP1. -/
theorem decodeCop1_isRowOrReserved (s : rsOf w ≠ 16) (d : rsOf w ≠ 17) (word : rsOf w ≠ 20) (long : rsOf w ≠ 21) :
    (decodeCop1 w).isRowOrReserved = true := by
  unfold decodeCop1
  split
  case h_7 => exact decodeBc1_isRowOrReserved w
  case h_8 rs => exact absurd rs s
  case h_9 rs => exact absurd rs d
  case h_10 rs => exact absurd rs word
  case h_11 rs => exact absurd rs long
  all_goals rfl

theorem decode_isRowOrReserved (cop1 : opOf w ≠ 17) (cop2 : opOf w ≠ 18) : (decode w).isRowOrReserved = true := by
  unfold decode
  split
  case h_1 => exact decodeSpecial_isRowOrReserved w
  case h_2 => exact decodeRegimm_isRowOrReserved w
  case h_3 => exact decodeCop0_isRowOrReserved w
  case h_4 op => exact absurd op cop1
  case h_5 op => exact absurd op cop2
  all_goals rfl

theorem formatMap_ne_cop2 {fmt : BitVec 5} {map : Word → Decoded} (known : (fmt, map) ∈ formatMaps) :
    map w ≠ .cop2 := by
  simp only [formatMaps, List.mem_cons, Prod.mk.injEq, List.not_mem_nil, or_false] at known
  rcases known with ⟨-, rfl⟩ | ⟨-, rfl⟩ | ⟨-, rfl⟩ | ⟨-, rfl⟩ <;>
    [unfold decodeCop1S; unfold decodeCop1D; unfold decodeCop1W; unfold decodeCop1L]
  all_goals split <;> nofun

theorem decodeCop1_of_format {fmt : BitVec 5} {map : Word → Decoded} (known : (fmt, map) ∈ formatMaps)
    (rs : rsOf w = fmt) : decodeCop1 w = map w := by
  unfold decodeCop1
  rw [rs]
  simp only [formatMaps, List.mem_cons, Prod.mk.injEq, List.not_mem_nil, or_false] at known
  rcases known with ⟨rfl, rfl⟩ | ⟨rfl, rfl⟩ | ⟨rfl, rfl⟩ | ⟨rfl, rfl⟩ <;> rfl

theorem decodeCop1_ne_cop2 (w : Word) : decodeCop1 w ≠ .cop2 := by
  unfold decodeCop1
  split
  case h_7 => exact Decoded.ne_of_isRowOrReserved (decodeBc1_isRowOrReserved w) rfl
  case h_8 => exact formatMap_ne_cop2 (.head _)
  case h_9 => exact formatMap_ne_cop2 (.tail _ (.head _))
  case h_10 => exact formatMap_ne_cop2 (.tail _ (.tail _ (.head _)))
  case h_11 => exact formatMap_ne_cop2 (.tail _ (.tail _ (.tail _ (.head _))))
  all_goals nofun

theorem decode_of_cop2 (op : opOf w = 18#6) : decode w = .cop2 := by
  unfold decode
  rw [op]
  rfl

theorem decode_eq_cop2_iff : decode w = .cop2 ↔ opOf w = 18 := by
  refine ⟨fun decoded => by_contra fun other => ?_, decode_of_cop2⟩
  by_cases cop1 : opOf w = 17
  · exact decodeCop1_ne_cop2 w ((decode_of_cop1 cop1).symm.trans decoded)
  · exact Decoded.ne_of_isRowOrReserved (decode_isRowOrReserved cop1 other) rfl decoded

theorem decodeCop1S_eq_fpUnimplementedFormat_iff :
    decodeCop1S w = .fpUnimplementedFormat ↔ (functOf w).toNat = 32 := by
  unfold decodeCop1S
  generalize functOf w = funct
  revert funct
  apply iff_of_values
  rfl

theorem decodeCop1D_eq_fpUnimplementedFormat_iff :
    decodeCop1D w = .fpUnimplementedFormat ↔ (functOf w).toNat = 33 := by
  unfold decodeCop1D
  generalize functOf w = funct
  revert funct
  apply iff_of_values
  rfl

/-- The formats W and L take the conversions to S and D alone. -/
theorem fixedPointMap_eq_fpUnimplementedFormat_iff {map : Word → Decoded}
    (fixedPoint : map = decodeCop1W ∨ map = decodeCop1L) : map w = .fpUnimplementedFormat ↔
      (functOf w).toNat ≤ 15 ∨ (functOf w).toNat ∈ [36, 37] ∨ 48 ≤ (functOf w).toNat := by
  rcases fixedPoint with rfl | rfl <;> [unfold decodeCop1W; unfold decodeCop1L]
  all_goals
    generalize functOf w = funct
    revert funct
    apply iff_of_values
    rfl

theorem decodeCop1_eq_fpUnimplementedFormat_iff : decodeCop1 w = .fpUnimplementedFormat ↔
    (rsOf w = 16 ∧ (functOf w).toNat = 32) ∨ (rsOf w = 17 ∧ (functOf w).toNat = 33) ∨
    ((rsOf w = 20 ∨ rsOf w = 21) ∧ ((functOf w).toNat ≤ 15 ∨ (functOf w).toNat ∈ [36, 37] ∨
      48 ≤ (functOf w).toNat)) := by
  by_cases s : rsOf w = 16#5
  · rw [decodeCop1_of_format (.head _) s, decodeCop1S_eq_fpUnimplementedFormat_iff]
    simp [s]
  by_cases d : rsOf w = 17#5
  · rw [decodeCop1_of_format (.tail _ (.head _)) d, decodeCop1D_eq_fpUnimplementedFormat_iff]
    simp [d]
  by_cases word : rsOf w = 20#5
  · rw [decodeCop1_of_format (.tail _ (.tail _ (.head _))) word, fixedPointMap_eq_fpUnimplementedFormat_iff (.inl rfl)]
    simp [word]
  by_cases long : rsOf w = 21#5
  · rw [decodeCop1_of_format (.tail _ (.tail _ (.tail _ (.head _)))) long,
      fixedPointMap_eq_fpUnimplementedFormat_iff (.inr rfl)]
    simp [long]
  · have other := Decoded.ne_of_isRowOrReserved (e := .fpUnimplementedFormat)
      (decodeCop1_isRowOrReserved s d word long) rfl
    simp [other, s, d, word, long]

theorem decode_eq_fpUnimplementedFormat_iff : decode w = .fpUnimplementedFormat ↔
    opOf w = 17 ∧ decodeCop1 w = .fpUnimplementedFormat := by
  constructor
  · intro decoded
    have cop1 : opOf w = 17 := by
      by_contra other
      by_cases cop2 : opOf w = 18
      · exact absurd ((decode_of_cop2 cop2).symm.trans decoded) nofun
      · exact Decoded.ne_of_isRowOrReserved (decode_isRowOrReserved other cop2) rfl decoded
    exact ⟨cop1, (decode_of_cop1 cop1).symm.trans decoded⟩
  · rintro ⟨cop1, decoded⟩
    exact (decode_of_cop1 cop1).trans decoded

end

end Sys2Proof

namespace Sys2Proof.Machine

/-! ## Running them (R433, R471) -/

theorem causeField_withCause (f : Word) (c : BitVec 6) : causeField (withCause f c) = c := by
  apply BitVec.eq_of_getLsbD_eq
  intro k small
  simp only [causeField, BitVec.getLsbD_extractLsb', small, decide_true, Bool.true_and]
  rw [withCause_getLsbD, if_pos (by omega), Nat.add_sub_cancel_left]

end Sys2Proof.Machine

namespace Sys2Proof

open Machine

/-- Settles O7: each map of COP1 by its functions; the raise records E alone past the gate of coprocessor 1. -/
theorem cop2AndUnimplementedFormats : Obligations.Cop2AndUnimplementedFormats := by
  refine ⟨fun w => decode_eq_cop2_iff.symm, fun w => ?_, fun s cu2 => ?_, fun s cu2 => if_pos cu2,
    fun s cu1 => gateCop1_of_unusable cu1, fun s cu1 => ⟨_, gateCop1_of_cu1 cu1, ?_, ?_, rfl⟩⟩
  · rw [decode_eq_fpUnimplementedFormat_iff, decodeCop1_eq_fpUnimplementedFormat_iff]
  · exact if_neg (Bool.eq_false_iff.mp cu2)
  · exact causeField_withCause _ _
  · exact (fcr31AfterRaise_withCause _ _).1 rfl

end Sys2Proof
end

section
/-! PROOF. The common sequence of R392: how FCR31 is committed, what a view that does not exist stops, and the arithmetic,
sign, move and conversion instructions that follow the sequence (R394 to R413). -/

namespace Sys2Proof.Machine

variable {s u : State} {i : Instr} {k : Answer} {v src : FpView} {f dst : FloatFormat} {r fd fs ft : Reg} {x : Signals}

/-! ## FCR31 after the signals are recorded (R392 steps 4 and 6) -/

/-- FCR31 with the signalled set recorded in Cause and accumulated in Flags. -/
def committed (f : Word) (x : Signals) : Word := withFlags (withCause f (causeOfSignals x)) x

theorem causeField_committed (f : Word) (x : Signals) : causeField (committed f x) = x.setWidth 6 := by
  rw [← causeOfSignals, ← causeField_withCause f (causeOfSignals x)]
  apply BitVec.eq_of_getLsbD_eq
  intro j small
  simp only [causeField, BitVec.getLsbD_extractLsb', committed]
  rw [withFlags_getLsbD, if_neg (by omega)]

theorem flagsField_committed (f : Word) (x : Signals) : flagsField (committed f x) = flagsField f ||| x := by
  apply BitVec.eq_of_getLsbD_eq
  intro j small
  simp only [flagsField, BitVec.getLsbD_extractLsb', BitVec.getLsbD_or, committed, small, decide_true, Bool.true_and]
  rw [withFlags_getLsbD, if_pos (by omega), withCause_getLsbD, if_neg (by omega), Nat.add_sub_cancel_left]

theorem committed_getLsbD_other (f : Word) (x : Signals) {j : Nat} (cause : j < 12 ∨ 17 < j) (flags : j < 2 ∨ 6 < j) :
    (committed f x).getLsbD j = f.getLsbD j := by
  rw [committed, withFlags_getLsbD, if_neg (by omega), withCause_getLsbD, if_neg (by omega)]

theorem fcr31Kept_committed (f : Word) (x : Signals) : Fcr31Kept f (committed f x) false :=
  fun _ cause flags => committed_getLsbD_other f x cause (flags.resolve_left Bool.false_ne_true)

theorem fpCommit_of_untrapped {next : State → Answer} (untrapped : x &&& enableField s.fcr31 = 0) :
    fpCommit s x next = next { s with fcr31 := committed s.fcr31 x } := if_pos untrapped

theorem raisesFloatingPoint_of_run {c : BitVec 6}
    (run : exec i s = raise .floatingPoint { s with fcr31 := withCause s.fcr31 c }) : RaisesFloatingPoint i s c :=
  ⟨_, run, causeField_withCause _ _, (fcr31AfterRaise_withCause _ _).1 rfl, rfl⟩

theorem raisesFloatingPoint_of_commit {next : State → Answer} (trapped : x &&& enableField s.fcr31 ≠ 0)
    (run : exec i s = fpCommit s x next) : RaisesFloatingPoint i s (x.setWidth 6) :=
  raisesFloatingPoint_of_run (run.trans (if_neg trapped))

/-! ## The views (R32, U13) -/

theorem gateView_of_exists (view : ViewExists s v r) : gateView s v r k = k := by
  cases v with
  | word => rfl
  | dword => exact gateDouble_of_view (view rfl)

theorem gateView_of_not_exists (odd : ¬ViewExists s v r) : gateView s v r k = .fault .oddDoubleRegister := by
  cases v with
  | word => exact absurd nofun odd
  | dword =>
    have none : ¬(s.fr = true ∨ r.getLsbD 0 = false) := fun view => odd fun _ => view
    rw [not_or, Bool.not_eq_true, Bool.not_eq_false] at none
    exact gateDouble_of_odd none.1 none.2

/-- Two views are checked one after the other: of the operands, or of an operand and the destination. -/
theorem gateViews_of_not_exists {r' : Reg} (odd : ¬ViewExists s v r ∨ ¬ViewExists s v r') :
    gateView s v r (gateView s v r' k) = .fault .oddDoubleRegister := by
  by_cases first : ViewExists s v r
  · rw [gateView_of_exists first, gateView_of_not_exists (odd.resolve_left (not_not.mpr first))]
  · rw [gateView_of_not_exists first]

/-! ## The result (R392 step 7) -/

theorem writesFpr_of_writeResult {bits : Dword} {n : Nat} (view : ViewExists s v fd)
    (run : exec i s = writeResult v fd bits { s with fcr31 := committed s.fcr31 x, draws := s.draws + n }) :
    WritesFpr i s v fd bits x n := by
  exact ⟨_, run.trans (gateView_of_exists view), by rw [writeView_eq]; exact advanced_advance rfl rfl,
    by rw [writeView_eq]; exact causeField_committed _ _, by rw [writeView_eq]; exact flagsField_committed _ _,
    by rw [writeView_eq]; exact fcr31Kept_committed _ _, by cases v <;> rfl⟩

theorem isNaN_someNaN (format : f = FloatFormat.single ∨ f = FloatFormat.double) (free : Dword) :
    f.isNaN (f.someNaN free) = true := by
  unfold FloatFormat.someNaN
  dsimp only
  split
  · assumption
  · rcases format with rfl | rfl <;> decide

/-- The end of an operation is the sequence of R392 from its step 3 on. -/
theorem followsSequence_of_finish {out : FpOut} (format : dst = FloatFormat.single ∨ dst = FloatFormat.double)
    (run : exec i s = fpFinish s dst v fd out) : FollowsSequence i s dst v fd out := by
  refine ⟨?_, ?_, ?_, ?_⟩
  · rintro bits x rfl untrapped
    have commit := run.trans (fpCommit_of_untrapped untrapped)
    exact ⟨fun view => writesFpr_of_writeResult view commit, fun odd => commit.trans (gateView_of_not_exists odd)⟩
  · rintro bits x rfl trapped
    exact raisesFloatingPoint_of_commit trapped run
  · rintro rfl
    exact raisesFloatingPoint_of_run run
  · rintro rfl
    have commit := run.trans (fpCommit_of_untrapped BitVec.zero_and)
    exact ⟨fun view => ⟨_, isNaN_someNaN format _, writesFpr_of_writeResult view commit⟩,
      fun odd => commit.trans (gateView_of_not_exists odd)⟩

/-- `op` is the operation of the instruction under the parameters and FCR31 of `s`. -/
theorem computesBinary_of_run {op : Dword → Dword → FpOut} (format : f = FloatFormat.single ∨ f = FloatFormat.double)
    (run : exec i s = fpBinary f (fun _ _ _ => op) fd fs ft s) : ComputesBinary i s f f.view fd fs ft op := by
  intro cu1
  rw [fpBinary, gateCop1_of_cu1 cu1] at run
  refine ⟨fun source target => ?_, fun odd => ?_⟩
  · rw [gateView_of_exists source, gateView_of_exists target] at run
    exact followsSequence_of_finish format run
  · exact run.trans (gateViews_of_not_exists odd)

theorem computesUnary_of_run {op : Dword → FpOut} (format : dst = FloatFormat.single ∨ dst = FloatFormat.double)
    (run : exec i s = fpUnary src dst v (fun _ _ _ => op) fd fs s) : ComputesUnary i s src dst v fd fs op := by
  intro cu1
  rw [fpUnary, gateCop1_of_cu1 cu1] at run
  refine ⟨fun source => ?_, fun odd => ?_⟩
  · rw [gateView_of_exists source] at run
    exact followsSequence_of_finish format run
  · rw [gateView_of_not_exists odd] at run
    exact run

/-! ## ABS, NEG and MOV (R399 to R401) -/

theorem signOperation_eq (f : FloatFormat) (nu : Numerics) (a changed : Dword) : f.signOperation nu a changed =
    if f.isNaN a = false ∨ nu.absNegOnNaN = .signBit then .result changed 0
    else .result (f.defaultNaN nu) Signals.invalid := by
  unfold FloatFormat.signOperation
  cases f.isNaN a <;> cases nu.absNegOnNaN <;> rfl

/-- The sign bit of format S cleared: the upper half of a word's view is zero already. -/
theorem zext64_and_not_signBit (w : Word) :
    zext64 w &&& ~~~FloatFormat.single.signBit = zext64 w &&& 0x7FFFFFFF#64 := by
  have mask : 0x7FFFFFFF#64 = zext64 (0xFFFFFFFF#32) &&& ~~~FloatFormat.single.signBit := by decide
  rw [mask, ← BitVec.and_assoc, ← BitVec.setWidth_and]
  congr 2
  exact BitVec.and_allOnes.symm

/-- A sign operation that changes the operand as `change` does; `mask` writes the change out for the operand that is
read. -/
theorem computesUnary_of_signOperation (change : Dword → Dword) {change' : Dword → Dword}
    {g : Dword → Dword → FpOut} (format : f = FloatFormat.single ∨ f = FloatFormat.double)
    (run : exec i s = fpUnary f.view f f.view (fun nu _ _ a => f.signOperation nu a (change a)) fd fs s)
    (spec : ∀ a b, g a b = if f.isNaN a = false ∨ s.cfg.numerics.absNegOnNaN = .signBit then .result b 0
      else .result (f.defaultNaN s.cfg.numerics) Signals.invalid)
    (mask : change (s.readView f.view fs) = change' (s.readView f.view fs)) :
    ComputesUnary i s f.view f f.view fd fs (fun a => g a (change' a)) := by
  refine computesUnary_of_run format (run.trans ?_)
  rw [fpUnary, fpUnary, mask, signOperation_eq, spec]

theorem exec_move (view : ViewExists s v fd) (source : ViewExists s v fs) (cu1 : s.cu1 = true)
    (run : exec i s = fpMove v fd fs s) : exec i s = complete (s.writeView v fd (s.readView v fs)) := by
  rw [run, fpMove, gateCop1_of_cu1 cu1, gateView_of_exists source]
  exact gateView_of_exists view

theorem stopsOnOddView_of_move (odd : ¬ViewExists s v fs ∨ ¬ViewExists s v fd) (cu1 : s.cu1 = true)
    (run : exec i s = fpMove v fd fs s) : StopsOnOddView i s :=
  (run.trans (gateCop1_of_cu1 cu1)).trans (gateViews_of_not_exists odd)

end Sys2Proof.Machine

namespace Sys2Proof

open Machine

/-- Settles O49: each operation is `fpBinary` or `fpUnary` with the operation of its name. -/
theorem arithmeticFollowsTheSequence : Obligations.ArithmeticFollowsTheSequence := by
  rintro s fd fs ft _ _ _ rfl rfl rfl S D
  exact ⟨computesBinary_of_run (.inl rfl) rfl, computesBinary_of_run (.inr rfl) rfl,
    computesBinary_of_run (.inl rfl) rfl, computesBinary_of_run (.inr rfl) rfl,
    computesBinary_of_run (.inl rfl) rfl, computesBinary_of_run (.inr rfl) rfl,
    computesBinary_of_run (.inl rfl) rfl, computesBinary_of_run (.inr rfl) rfl,
    computesUnary_of_run (.inl rfl) rfl, computesUnary_of_run (.inr rfl) rfl⟩

/-- Settles O50: ABS and NEG are sign operations, read with the masks of the statement; MOV is a write of the view. -/
theorem signOperationsAndMoves : Obligations.SignOperationsAndMoves := by
  intro s fd fs S D single double
  refine ⟨computesUnary_of_signOperation (· &&& ~~~FloatFormat.single.signBit) (.inl rfl) rfl single
      (zext64_and_not_signBit _),
    computesUnary_of_signOperation (· ^^^ FloatFormat.single.signBit) (.inl rfl) rfl single rfl,
    computesUnary_of_signOperation (· &&& ~~~FloatFormat.double.signBit) (.inr rfl) rfl double rfl,
    computesUnary_of_signOperation (· ^^^ FloatFormat.double.signBit) (.inr rfl) rfl double rfl,
    fun cu1 => ⟨⟨_, exec_move (v := .word) nofun nofun cu1 rfl, advanced_advance rfl rfl, ?_⟩, fun target source =>
      ⟨_, exec_move target source cu1 rfl, advanced_advance rfl rfl, rfl⟩,
      fun odd => stopsOnOddView_of_move odd.symm cu1 rfl⟩⟩
  simp only [State.writeView, State.readView, trunc32_zext64]
  rfl

/-- Settles O51: each conversion is `fpUnary` with the mode of its name, or of FCR31. -/
theorem conversionsFollowTheSequence : Obligations.ConversionsFollowTheSequence := by
  rintro s fd fs _ _ _ rfl rfl rfl S D
  refine ⟨fun mode i j known => ?_, fun mode i j known => ?_,
    computesUnary_of_run (.inl rfl) rfl, computesUnary_of_run (.inr rfl) rfl, computesUnary_of_run (.inl rfl) rfl,
    computesUnary_of_run (.inr rfl) rfl, computesUnary_of_run (.inl rfl) rfl, computesUnary_of_run (.inr rfl) rfl⟩
  all_goals
    simp only [List.mem_cons, Prod.mk.injEq, List.not_mem_nil, or_false] at known
    rcases known with ⟨rfl, rfl, rfl⟩ | ⟨rfl, rfl, rfl⟩ | ⟨rfl, rfl, rfl⟩ | ⟨rfl, rfl, rfl⟩ | ⟨rfl, rfl, rfl⟩ <;>
      exact ⟨computesUnary_of_run (.inl rfl) rfl, computesUnary_of_run (.inr rfl) rfl⟩

end Sys2Proof
end

section
/-! PROOF. The compares (R414 to R430): what each records and sets, and the order of the numbers its operands stand for. -/

namespace Sys2Proof.Machine

/-! ## The sequence of a compare (R414) -/

theorem causeField_withConditionFlag (f : Word) (b : Bool) : causeField (withConditionFlag f b) = causeField f := by
  apply BitVec.eq_of_getLsbD_eq
  intro j small
  simp only [causeField, BitVec.getLsbD_extractLsb', withConditionFlag_getLsbD]
  rw [if_neg (by omega)]

theorem flagsField_withConditionFlag (f : Word) (b : Bool) : flagsField (withConditionFlag f b) = flagsField f := by
  apply BitVec.eq_of_getLsbD_eq
  intro j small
  simp only [flagsField, BitVec.getLsbD_extractLsb', withConditionFlag_getLsbD]
  rw [if_neg (by omega)]

section
variable {s : State} {i : Instr} {f : FloatFormat} {fs ft : Reg} {cond : BitVec 4} {a b : Dword}

theorem compareInvalid_iff : f.compareInvalid s.cfg.numerics cond a b = true ↔ compareSignals s f cond a b := by
  simp only [FloatFormat.compareInvalid, FloatFormat.unordered, compareSignals, Bool.and_eq_true, Bool.or_eq_true]

theorem compare_iff : f.compare cond a b = true ↔ (cond.getLsbD 2 = true ∧ f.less a b = true) ∨
    (cond.getLsbD 1 = true ∧ f.equal a b = true) ∨ (cond.getLsbD 0 = true ∧ (f.isNaN a = true ∨ f.isNaN b = true)) := by
  simp only [FloatFormat.compare, FloatFormat.unordered, Bool.and_eq_true, Bool.or_eq_true, or_assoc]

/-- The signal of a compare: V in the invalid case, else nothing. -/
theorem compareSignal_eq {x : Signals} (signals : (compareSignals s f cond a b ∧ x = Signals.invalid) ∨
    (¬compareSignals s f cond a b ∧ x = 0)) :
    (if f.compareInvalid s.cfg.numerics cond a b then Signals.invalid else Signals.none) = x := by
  rcases signals with ⟨invalid, rfl⟩ | ⟨valid, rfl⟩
  · exact if_pos (compareInvalid_iff.mpr invalid)
  · exact if_neg (mt compareInvalid_iff.mp valid)

theorem invalid_and_eq_zero_iff {e : Signals} : Signals.invalid &&& e = 0 ↔ e.getLsbD 4 = false := by
  revert e
  decide

theorem exec_compare (cu1 : s.cu1 = true) (source : ViewExists s f.view fs) (target : ViewExists s f.view ft)
    (run : exec i s = fpCompare f cond fs ft s) (left : s.readView f.view fs = a) (right : s.readView f.view ft = b) :
    exec i s = fpCommit s (if f.compareInvalid s.cfg.numerics cond a b then Signals.invalid else Signals.none)
      fun t => complete { t with fcr31 := withConditionFlag t.fcr31 (f.compare cond a b) } := by
  rw [run, fpCompare, gateCop1_of_cu1 cu1, gateView_of_exists source, gateView_of_exists target, left, right]

theorem compares_of_run (cu1 : s.cu1 = true) (source : ViewExists s f.view fs) (target : ViewExists s f.view ft)
    (run : exec i s = fpCompare f cond fs ft s) :
    Compares i s f cond (s.readView f.view fs) (s.readView f.view ft) := by
  have commit := exec_compare cu1 source target run rfl rfl
  refine ⟨fun invalid enabled => ?_, fun x signals => ?_⟩
  · rw [compareSignal_eq (.inl ⟨invalid, rfl⟩)] at commit
    refine raisesFloatingPoint_of_commit (fun untrapped => ?_) commit
    exact absurd (enabled.symm.trans (invalid_and_eq_zero_iff.mp untrapped)) (by decide)
  · have untrapped : x &&& enableField s.fcr31 = 0 := by
      rcases signals with ⟨-, disabled, rfl⟩ | ⟨-, rfl⟩
      · exact invalid_and_eq_zero_iff.mpr disabled
      · exact BitVec.zero_and
    rw [compareSignal_eq (signals.imp_left fun ⟨invalid, _, value⟩ => ⟨invalid, value⟩),
      fpCommit_of_untrapped untrapped] at commit
    refine ⟨_, commit, advanced_advance rfl rfl, ?_, ?_, ?_, fun k other cause flags => ?_, rfl⟩
    · exact (causeField_withConditionFlag _ _).trans (causeField_committed _ _)
    · exact (flagsField_withConditionFlag _ _).trans (flagsField_committed _ _)
    · rw [State.advance_fcr31, withConditionFlag_getLsbD, if_pos rfl, compare_iff]
    · rw [State.advance_fcr31, withConditionFlag_getLsbD, if_neg other]
      exact committed_getLsbD_other _ _ cause flags

theorem stopsOnOddView_of_compare (cu1 : s.cu1 = true) (odd : ¬ViewExists s f.view fs ∨ ¬ViewExists s f.view ft)
    (run : exec i s = fpCompare f cond fs ft s) : StopsOnOddView i s :=
  (run.trans (gateCop1_of_cu1 cu1)).trans (gateViews_of_not_exists odd)

end

/-! ## The order of numbers (R414) -/

/-- The rational number `± m · 2^e`. -/
def finiteRat (neg : Bool) (m : Nat) (e : Int) : ℚ := (if neg then -1 else 1) * (m : ℚ) * (2 : ℚ) ^ e

/-- What a value stands for among the numbers with minus infinity below and plus infinity above them; none for a NaN. -/
def FloatValue.extended : FloatValue → Option (WithBot (WithTop ℚ))
  | .nan => none
  | .inf neg => some (if neg then ⊥ else ((⊤ : WithTop ℚ) : WithBot (WithTop ℚ)))
  | .finite neg m e => some ((finiteRat neg m e : WithTop ℚ) : WithBot (WithTop ℚ))

section
variable {f : FloatFormat} {a b c : Dword} {x y : ℚ}

theorem rational_eq_some_iff : f.rational b = some x ↔ ∃ neg m e, f.value b = .finite neg m e ∧ x = finiteRat neg m e := by
  unfold FloatFormat.rational
  cases f.value b with
  | nan => simp
  | inf neg => simp
  | finite neg m e => simp [finiteRat, eq_comm]

theorem rational_of_finite {neg : Bool} {m : Nat} {e : Int} (value : f.value b = .finite neg m e) :
    f.rational b = some (finiteRat neg m e) := rational_eq_some_iff.mpr ⟨neg, m, e, value, rfl⟩

theorem isNaN_iff : f.isNaN b = true ↔ f.value b = .nan := by
  unfold FloatFormat.isNaN FloatFormat.value
  dsimp only
  split_ifs with all frac
  · simp [all, frac]
  · simp [all, frac]
  · simp [all]
  · simp [all]

theorem isNaN_eq_false_iff : f.isNaN b = false ↔ ∃ x, (f.value b).extended = some x := by
  rw [← Bool.not_eq_true, isNaN_iff]
  cases f.value b <;> simp [FloatValue.extended]

/-- Two numbers at a common exponent are compared as integers. -/
theorem finiteInt_mul_two_zpow {neg : Bool} {m : Nat} {e common : Int} (below : common ≤ e) :
    (finiteInt neg m e common : ℚ) * 2 ^ common = finiteRat neg m e := by
  have power : (2 : ℚ) ^ (e - common).toNat * 2 ^ common = 2 ^ e := by
    rw [← zpow_natCast, ← zpow_add₀ two_ne_zero, Int.toNat_of_nonneg (by omega), Int.sub_add_cancel]
  unfold finiteInt finiteRat
  cases neg <;> simp [mul_assoc, power]

theorem finiteInt_lt_iff {na nb : Bool} {ma mb : Nat} {ea eb : Int} :
    finiteInt na ma ea (min ea eb) < finiteInt nb mb eb (min ea eb) ↔ finiteRat na ma ea < finiteRat nb mb eb := by
  rw [← finiteInt_mul_two_zpow (min_le_left ea eb), ← finiteInt_mul_two_zpow (min_le_right ea eb),
    mul_lt_mul_iff_left₀ (zpow_pos two_pos _), Int.cast_lt]

theorem finiteInt_eq_iff {na nb : Bool} {ma mb : Nat} {ea eb : Int} :
    finiteInt na ma ea (min ea eb) = finiteInt nb mb eb (min ea eb) ↔ finiteRat na ma ea = finiteRat nb mb eb := by
  rw [← finiteInt_mul_two_zpow (min_le_left ea eb), ← finiteInt_mul_two_zpow (min_le_right ea eb),
    mul_left_inj' (zpow_pos two_pos _).ne', Int.cast_inj]

theorem finite_lt_top (x : ℚ) : ((x : WithTop ℚ) : WithBot (WithTop ℚ)) < ⊤ :=
  WithBot.coe_lt_coe.mpr (WithTop.coe_lt_top x)

/-- `less` is the order of the extended numbers. -/
theorem less_iff : f.less a b = true ↔
    ∃ x y, (f.value a).extended = some x ∧ (f.value b).extended = some y ∧ x < y := by
  unfold FloatFormat.less
  cases f.value a with
  | nan => simp [FloatValue.extended]
  | inf na =>
    cases f.value b with
    | nan => simp [FloatValue.extended]
    | inf nb => cases na <;> cases nb <;> simp [FloatValue.extended]
    | finite nb mb eb => cases na <;> simp [FloatValue.extended]
  | finite na ma ea =>
    cases f.value b with
    | nan => simp [FloatValue.extended]
    | inf nb => cases nb <;> simp [FloatValue.extended, finite_lt_top]
    | finite nb mb eb => simp [FloatValue.extended, finiteInt_lt_iff]

/-- `equal` is the equality of the extended numbers. -/
theorem equal_iff : f.equal a b = true ↔
    ∃ y, (f.value b).extended = some y ∧ (f.value a).extended = some y := by
  unfold FloatFormat.equal
  cases f.value a with
  | nan => simp [FloatValue.extended]
  | inf na =>
    cases f.value b with
    | nan => simp [FloatValue.extended]
    | inf nb => cases na <;> cases nb <;> simp [FloatValue.extended]
    | finite nb mb eb => cases na <;> simp [FloatValue.extended]
  | finite na ma ea =>
    cases f.value b with
    | nan => simp [FloatValue.extended]
    | inf nb => cases nb <;> simp [FloatValue.extended]
    | finite nb mb eb => simp [FloatValue.extended, finiteInt_eq_iff]

/-- Of two numbers or infinities exactly one of the three relations holds. -/
theorem order_trichotomy (left : f.isNaN a = false) (right : f.isNaN b = false) :
    (f.less a b = true ∧ f.equal a b = false ∧ f.less b a = false) ∨
    (f.less a b = false ∧ f.equal a b = true ∧ f.less b a = false) ∨
    (f.less a b = false ∧ f.equal a b = false ∧ f.less b a = true) := by
  obtain ⟨x, hx⟩ := isNaN_eq_false_iff.mp left
  obtain ⟨y, hy⟩ := isNaN_eq_false_iff.mp right
  have less : f.less a b = true ↔ x < y := by simp [less_iff, hx, hy]
  have equal : f.equal a b = true ↔ x = y := by simp [equal_iff, hx, hy]
  have greater : f.less b a = true ↔ y < x := by simp [less_iff, hx, hy]
  simp only [← Bool.not_eq_true, less, equal, greater]
  rcases lt_trichotomy x y with below | rfl | above
  · exact .inl ⟨below, below.ne, below.not_gt⟩
  · exact .inr (.inl ⟨lt_irrefl _, rfl, lt_irrefl _⟩)
  · exact .inr (.inr ⟨above.not_gt, above.ne', above⟩)

theorem unordered_of_isNaN (nan : f.isNaN a = true ∨ f.isNaN b = true) : f.less a b = false ∧ f.equal a b = false := by
  rw [isNaN_iff, isNaN_iff] at nan
  simp only [← Bool.not_eq_true, less_iff, equal_iff]
  rcases nan with nan | nan <;> simp [nan, FloatValue.extended]

theorem less_trans (first : f.less a b = true) (second : f.less b c = true) : f.less a c = true := by
  obtain ⟨x, y, hx, hy, below⟩ := less_iff.mp first
  obtain ⟨y', z, hy', hz, above⟩ := less_iff.mp second
  obtain rfl : y = y' := Option.some.inj (hy.symm.trans hy')
  exact less_iff.mpr ⟨x, z, hx, hz, below.trans above⟩

end

end Sys2Proof.Machine

namespace Sys2Proof

open Machine

/-- Settles O58: every compare is `fpCompare` with the condition of its name, and the order is that of the extended
numbers. -/
theorem comparesSetTheConditionFlag : Obligations.ComparesSetTheConditionFlag := by
  refine ⟨fun s fs ft c i j cu1 known => ?_, fun f a b x n format => ⟨fun number => ⟨fun y right => ?_, fun right => ?_⟩,
    fun m left right => ?_, ?_, ?_⟩, fun f a b c _ => ⟨order_trichotomy, unordered_of_isNaN, less_trans⟩⟩
  · have run : exec i s = fpCompare FloatFormat.single (BitVec.ofNat 4 c) fs ft s ∧
        exec j s = fpCompare FloatFormat.double (BitVec.ofNat 4 c) fs ft s := by
      simp only [List.mem_cons, Prod.mk.injEq, List.not_mem_nil, or_false] at known
      rcases known with ⟨rfl, rfl, rfl⟩ | ⟨rfl, rfl, rfl⟩ | ⟨rfl, rfl, rfl⟩ | ⟨rfl, rfl, rfl⟩ | ⟨rfl, rfl, rfl⟩ |
        ⟨rfl, rfl, rfl⟩ | ⟨rfl, rfl, rfl⟩ | ⟨rfl, rfl, rfl⟩ | ⟨rfl, rfl, rfl⟩ | ⟨rfl, rfl, rfl⟩ | ⟨rfl, rfl, rfl⟩ |
        ⟨rfl, rfl, rfl⟩ | ⟨rfl, rfl, rfl⟩ | ⟨rfl, rfl, rfl⟩ | ⟨rfl, rfl, rfl⟩ | ⟨rfl, rfl, rfl⟩ <;> exact ⟨rfl, rfl⟩
    exact ⟨compares_of_run cu1 nofun nofun run.1, fun source target => compares_of_run cu1 source target run.2,
      fun odd => stopsOnOddView_of_compare (f := .double) cu1 odd run.2⟩
  · obtain ⟨na, ma, ea, left, rfl⟩ := rational_eq_some_iff.mp number
    obtain ⟨nb, mb, eb, value, rfl⟩ := rational_eq_some_iff.mp right
    simp [less_iff, equal_iff, left, value, FloatValue.extended]
  · obtain ⟨na, ma, ea, left, -⟩ := rational_eq_some_iff.mp number
    simp only [FloatFormat.less, FloatFormat.equal, left, right, and_self]
  · simp only [FloatFormat.less, FloatFormat.equal, left, right]
    cases m <;> cases n <;> decide
  · rcases format with rfl | rfl <;> decide
  · rcases format with rfl | rfl <;> decide

end Sys2Proof
end

section
/-! PROOF. What an operation does by the classes of its operands: the invalid operations, the division by zero, the NaNs
(R393 to R398, R410, R411), and the conversion to an integer (R432). -/

namespace Sys2Proof.Machine

variable {f g : FloatFormat} {nu : Numerics} {fl : Bool} {rm : Rounding} {a b c : Dword} {l : List Dword}
  {na nb negate : Bool} {ma mb : Nat} {ea eb : Int}

/-! ## Operands that decide nothing before the arithmetic (R393) -/

/-- The operand is no NaN, and not denormalised where that is unimplemented. -/
def Ordinary (f : FloatFormat) (nu : Numerics) (c : Dword) : Prop :=
  f.value c ≠ .nan ∧ (nu.denormal = .gradual ∨ f.isDenormal c = false)

theorem operandOutcome_of_ordinary (ordinary : ∀ c ∈ l, Ordinary f nu c) : operandOutcome f g nu l = none := by
  have number {c : Dword} (member : c ∈ l) : f.isNaN c = false :=
    Bool.eq_false_iff.mpr (mt isNaN_iff.mp (ordinary c member).1)
  have signaling : l.any (f.isSignaling nu.nan) = false := List.any_eq_false.mpr fun c member => by
    simp [FloatFormat.isSignaling, number member]
  have nan : l.any f.isNaN = false := List.any_eq_false.mpr fun c member => by simp [number member]
  have denormal : (decide (nu.denormal = .unimplemented) && l.any f.isDenormal) = false := by
    cases mode : nu.denormal with
    | gradual => rfl
    | unimplemented =>
      refine List.any_eq_false.mpr fun c member => ?_
      rcases (ordinary c member).2 with gradual | normal
      · rw [mode] at gradual
        cases gradual
      · simp [normal]
  rw [operandOutcome, signaling, nan, denormal]
  rfl

theorem operandOutcome_one (ha : Ordinary f nu a) : operandOutcome f g nu [a] = none :=
  operandOutcome_of_ordinary (by simpa using ha)

theorem operandOutcome_two (ha : Ordinary f nu a) (hb : Ordinary f nu b) : operandOutcome f g nu [a, b] = none :=
  operandOutcome_of_ordinary (by simpa using ⟨ha, hb⟩)

theorem ordinary_of_inf (value : f.value a = .inf na) : Ordinary f nu a := by
  refine ⟨by simp [value], .inr ?_⟩
  unfold FloatFormat.value at value
  dsimp only at value
  rw [FloatFormat.isDenormal, decide_eq_false_iff_not]
  rintro ⟨zero, frac⟩
  split_ifs at value

theorem ordinary_of_zero (value : f.value a = .finite na 0 ea) : Ordinary f nu a := by
  refine ⟨by simp [value], .inr ?_⟩
  unfold FloatFormat.value at value
  dsimp only at value
  rw [FloatFormat.isDenormal, decide_eq_false_iff_not]
  rintro ⟨zero, frac⟩
  split_ifs at value
  exact frac (FloatValue.finite.inj value).2.1

theorem ordinary_of_finite (gradual : nu.denormal = .gradual) (value : f.value a = .finite na ma ea) :
    Ordinary f nu a := ⟨by simp [value], .inl gradual⟩

/-! ## A NaN operand (R393) -/

theorem operandOutcome_signaling (signaling : l.any (f.isSignaling nu.nan) = true) :
    operandOutcome f g nu l = some (g.invalidOut nu) := if_pos signaling

theorem operandOutcome_quiet (quiet : l.any (f.isSignaling nu.nan) = false) (nan : l.any f.isNaN = true) :
    operandOutcome f g nu l = some .propagateNaN := by
  rw [operandOutcome, quiet, nan]
  rfl

/-- Every operation on two operands gives what they decide. -/
theorem binary_of_operandOutcome {out : FpOut} {op : Dword → Dword → FpOut}
    (known : op ∈ [f.add nu fl rm false, f.add nu fl rm true, f.mul nu fl rm, f.div nu fl rm])
    (decided : operandOutcome f f nu [a, b] = some out) : op a b = out := by
  simp only [List.mem_cons, List.not_mem_nil, or_false] at known
  rcases known with rfl | rfl | rfl | rfl <;>
    [rw [FloatFormat.add]; rw [FloatFormat.add]; rw [FloatFormat.mul]; rw [FloatFormat.div]] <;> rw [decided]

/-- Every operation on one operand gives what it decides. -/
theorem unary_of_operandOutcome {out : FpOut} {op : Dword → FpOut}
    (known : (op = f.sqrt nu fl rm ∧ g = f) ∨ op = f.convert g nu fl rm)
    (decided : operandOutcome f g nu [a] = some out) : op a = out := by
  rcases known with ⟨rfl, rfl⟩ | rfl
  · rw [FloatFormat.sqrt, decided]
  · rw [FloatFormat.convert, decided]

/-! ## Ordinary operands, by their classes -/

section
variable (ha : Ordinary f nu a) (hb : Ordinary f nu b)
include ha hb

theorem add_finite_finite (left : f.value a = .finite na ma ea) (right : f.value b = .finite nb mb eb) :
    f.add nu fl rm negate a b = f.addFinite nu fl rm na ma ea (nb ^^ negate) mb eb := by
  rw [FloatFormat.add, operandOutcome_two ha hb, left, right]

theorem mul_finite_finite (left : f.value a = .finite na ma ea) (right : f.value b = .finite nb mb eb) :
    f.mul nu fl rm a b = f.round nu fl rm (na ^^ nb) (ma * mb) (ea + eb) := by
  rw [FloatFormat.mul, operandOutcome_two ha hb, left, right]

theorem div_finite_finite (left : f.value a = .finite na ma ea) (right : f.value b = .finite nb mb eb)
    (nonzero : mb ≠ 0) : f.div nu fl rm a b = f.divFinite nu fl rm (na ^^ nb) ma ea mb eb := by
  rw [FloatFormat.div, operandOutcome_two ha hb, left, right]
  exact if_neg nonzero

theorem div_finite_zero (left : f.value a = .finite na ma ea) (right : f.value b = .finite nb 0 eb) :
    f.div nu fl rm a b =
      if ma = 0 then f.invalidOut nu else .result (f.infinity (na ^^ nb)) Signals.divideByZero := by
  rw [FloatFormat.div, operandOutcome_two ha hb, left, right]
  rfl

end

section
variable (left : f.value a = .inf na) (right : f.value b = .inf nb)
include left right

theorem add_inf_inf : f.add nu fl rm negate a b =
    if na = (nb ^^ negate) then .result (f.infinity na) Signals.none else f.invalidOut nu := by
  rw [FloatFormat.add, operandOutcome_two (ordinary_of_inf left) (ordinary_of_inf right), left, right]

theorem mul_inf_inf : f.mul nu fl rm a b = .result (f.infinity (na ^^ nb)) Signals.none := by
  rw [FloatFormat.mul, operandOutcome_two (ordinary_of_inf left) (ordinary_of_inf right), left, right]

theorem div_inf_inf : f.div nu fl rm a b = f.invalidOut nu := by
  rw [FloatFormat.div, operandOutcome_two (ordinary_of_inf left) (ordinary_of_inf right), left, right]

end

section
variable (inf : f.value a = .inf na) (hb : Ordinary f nu b) (number : f.value b = .finite nb mb eb)
include inf hb number

theorem add_inf_finite : f.add nu fl rm negate a b = .result (f.infinity na) Signals.none := by
  rw [FloatFormat.add, operandOutcome_two (ordinary_of_inf inf) hb, inf, number]

theorem add_finite_inf : f.add nu fl rm negate b a = .result (f.infinity (na ^^ negate)) Signals.none := by
  rw [FloatFormat.add, operandOutcome_two hb (ordinary_of_inf inf), inf, number]

theorem mul_inf_finite : f.mul nu fl rm a b =
    if mb = 0 then f.invalidOut nu else .result (f.infinity (na ^^ nb)) Signals.none := by
  rw [FloatFormat.mul, operandOutcome_two (ordinary_of_inf inf) hb, inf, number]

theorem mul_finite_inf : f.mul nu fl rm b a =
    if mb = 0 then f.invalidOut nu else .result (f.infinity (nb ^^ na)) Signals.none := by
  rw [FloatFormat.mul, operandOutcome_two hb (ordinary_of_inf inf), inf, number]

theorem div_inf_finite : f.div nu fl rm a b = .result (f.infinity (na ^^ nb)) Signals.none := by
  rw [FloatFormat.div, operandOutcome_two (ordinary_of_inf inf) hb, inf, number]

theorem div_finite_inf : f.div nu fl rm b a = .result (f.zero (nb ^^ na)) Signals.none := by
  rw [FloatFormat.div, operandOutcome_two hb (ordinary_of_inf inf), inf, number]

end

theorem sqrt_finite (ha : Ordinary f nu a) (value : f.value a = .finite na ma ea) : f.sqrt nu fl rm a =
    if ma = 0 then .result (f.zero na) Signals.none
    else if na then f.invalidOut nu else f.sqrtFinite nu fl rm ma ea := by
  rw [FloatFormat.sqrt, operandOutcome_one ha, value]

theorem sqrt_inf (value : f.value a = .inf na) : f.sqrt nu fl rm a =
    if na then f.invalidOut nu else .result (f.infinity false) Signals.none := by
  rw [FloatFormat.sqrt, operandOutcome_one (ordinary_of_inf value), value]

theorem convert_finite (ha : Ordinary f nu a) (value : f.value a = .finite na ma ea) :
    f.convert g nu fl rm a = g.round nu fl rm na ma ea := by
  rw [FloatFormat.convert, operandOutcome_one ha, value]

theorem convert_inf (value : f.value a = .inf na) : f.convert g nu fl rm a = .result (g.infinity na) Signals.none := by
  rw [FloatFormat.convert, operandOutcome_one (ordinary_of_inf value), value]

/-! ## Conversion to an integer (R432) -/

/-- The low `n` bits of an integer, `n` = 32 or 64, as an unsigned number. -/
theorem toNat_lowBits {n : Nat} (width : n = 32 ∨ n = 64) (i : Int) :
    (BitVec.ofInt 64 i &&& BitVec.ofNat 64 (2 ^ n - 1)).toNat = (i % (2 ^ n : Int)).toNat := by
  have mask : (2 ^ n - 1) % 2 ^ 64 = 2 ^ n - 1 := by rcases width with rfl | rfl <;> rfl
  rw [BitVec.toNat_and, BitVec.toNat_ofNat, mask, Nat.and_two_pow_sub_one_eq_mod, BitVec.toNat_ofInt]
  rcases width with rfl | rfl <;> omega

section
variable (gradual : nu.denormal = .gradual) (n : Nat)
include gradual

theorem toInteger_nan (value : f.value a = .nan) : f.toInteger nu n rm a = intOverflowOut nu n := by
  rw [FloatFormat.toInteger, gradual, value]
  rfl

theorem toInteger_inf (value : f.value a = .inf na) : f.toInteger nu n rm a = intOverflowOut nu n := by
  rw [FloatFormat.toInteger, gradual, value]
  rfl

theorem toInteger_finite {r : Nat} {lost : Bool} (value : f.value a = .finite na ma ea)
    (rounded : roundToQuantum rm na ma ea 0 = (r, lost)) : f.toInteger nu n rm a =
      if signedOverflow n (if na then -(r : Int) else r) then intOverflowOut nu n
      else .result (BitVec.ofInt 64 (if na then -(r : Int) else r) &&& BitVec.ofNat 64 (2 ^ n - 1))
        (if lost then Signals.inexact else 0) := by
  rw [FloatFormat.toInteger, gradual, value]
  simp only [rounded]
  rfl

end

end Sys2Proof.Machine

namespace Sys2Proof

open Machine

/-- Settles O57: the rounded value decides between the overflow result and its low bits. -/
theorem conversionToAnInteger : Obligations.ConversionToAnInteger := by
  intro f nu n rm a width gradual invalid
  refine ⟨?_, fun neg m e value => ⟨_, _, _, rfl, rfl, fun outside => ?_, fun ⟨low, high⟩ => ⟨_, toNat_lowBits width _, ?_⟩⟩⟩
  · rintro (nan | ⟨x, inf⟩)
    · exact toInteger_nan gradual n nan
    · exact toInteger_inf gradual n inf
  · rw [toInteger_finite gradual n value rfl, signedOverflow_of_outside outside]
    rfl
  · rw [toInteger_finite gradual n value rfl, signedOverflow_of_fits low high]
    rfl

/-- Settles O53: the operands' classes decide each case. -/
theorem invalidOperationsAndDivisionByZero : Obligations.InvalidOperationsAndDivisionByZero := by
  intro f nu fl rm a b n m e _
  refine ⟨fun x y left right => ⟨fun unlike => ?_, fun like => ?_, div_inf_inf left right⟩, fun x inf zero => ?_,
    fun zero => ⟨fun n' e' number => ?_, fun n' e' number nonzero gradual => ?_⟩,
    fun e' value nonzero gradual => ?_, fun value => ?_, fun value => ?_, fun op known => ⟨fun signaling => ?_,
      fun nan left right => ?_⟩, fun g op known => ⟨fun signaling => ?_, fun nan quiet => ?_⟩, ?_, rfl⟩
  · rw [add_inf_inf left right, Bool.xor_false]
    exact if_neg unlike
  · rw [add_inf_inf left right, if_neg (by subst like; cases x <;> decide)]
    rfl
  · exact ⟨mul_inf_finite inf (ordinary_of_zero zero) zero, mul_finite_inf inf (ordinary_of_zero zero) zero⟩
  · exact div_finite_zero (ordinary_of_zero number) (ordinary_of_zero zero) number zero
  · rw [div_finite_zero (ordinary_of_finite gradual number) (ordinary_of_zero zero) number zero, if_neg nonzero]
    rfl
  · rw [sqrt_finite (ordinary_of_finite gradual value) value, if_neg nonzero]
    rfl
  · exact sqrt_finite (ordinary_of_zero value) value
  · exact sqrt_inf value
  · exact binary_of_operandOutcome known (operandOutcome_signaling (by simpa using signaling))
  · exact binary_of_operandOutcome known (operandOutcome_quiet (by simp [left, right]) (by simpa using nan))
  · exact unary_of_operandOutcome known (operandOutcome_signaling (by simpa using signaling))
  · exact unary_of_operandOutcome known (operandOutcome_quiet (by simp [quiet]) (by simpa using nan))
  · exact BitVec.toNat_setWidth_of_le (show 32 ≤ 64 by decide)

end Sys2Proof
end

section
/-! PROOF. The numbers of a format in the order of their encodings: the encoding without its sign is the place of the
magnitude in one strictly increasing sequence, whose terms beyond the last finite one go on with no bound on the exponent
(R391, R393). -/

namespace Sys2Proof.Machine

variable {f : FloatFormat}

/-! ## The fields of an encoding (R391) -/

/-- An encoding without its sign. -/
def FloatFormat.magBits (f : FloatFormat) (b : Dword) : Nat := b.toNat % 2 ^ (f.expBits + f.fracBits)

/-- The encoding of plus infinity: every finite number is below it. -/
def FloatFormat.infBits (f : FloatFormat) : Nat := (2 ^ f.expBits - 1) * 2 ^ f.fracBits

theorem magBits_lt (b : Dword) : f.magBits b < 2 ^ (f.expBits + f.fracBits) := Nat.mod_lt _ (Nat.two_pow_pos _)

theorem infBits_lt : f.infBits < 2 ^ (f.expBits + f.fracBits) := by
  rw [FloatFormat.infBits, Nat.pow_add]
  exact Nat.mul_lt_mul_of_pos_right (Nat.sub_lt (Nat.two_pow_pos _) one_pos) (Nat.two_pow_pos _)

theorem expOf_eq (b : Dword) : f.expOf b = f.magBits b / 2 ^ f.fracBits := by
  rw [FloatFormat.expOf, FloatFormat.magBits, Nat.add_comm f.expBits, Nat.pow_add, Nat.mod_mul_right_div_self]

theorem fracOf_eq (b : Dword) : f.fracOf b = f.magBits b % 2 ^ f.fracBits :=
  (Nat.mod_mod_of_dvd _ (Nat.pow_dvd_pow 2 (Nat.le_add_left ..))).symm

theorem expOf_eq_top_iff (b : Dword) : f.expOf b = 2 ^ f.expBits - 1 ↔ f.infBits ≤ f.magBits b := by
  have small : f.magBits b / 2 ^ f.fracBits < 2 ^ f.expBits := by
    rw [Nat.div_lt_iff_lt_mul (Nat.two_pow_pos _), ← Nat.pow_add]
    exact magBits_lt b
  rw [expOf_eq, FloatFormat.infBits, ← Nat.le_div_iff_mul_le (Nat.two_pow_pos _)]
  omega

section
variable (format : f = FloatFormat.single ∨ f = FloatFormat.double)
include format

theorem fracBits_pos : 0 < f.fracBits := by rcases format with rfl | rfl <;> decide

theorem bias_pos : 0 < f.bias := by rcases format with rfl | rfl <;> decide

theorem two_pow_expBits : 2 ^ f.expBits = 2 * f.bias + 2 := by rcases format with rfl | rfl <;> decide

theorem two_pow_totalBits_le : 2 ^ (f.expBits + f.fracBits + 1) ≤ 2 ^ 64 :=
  Nat.pow_le_pow_right two_pos (by rcases format with rfl | rfl <;> decide)

theorem toNat_pack (neg : Bool) {n : Nat} (fits : n < 2 ^ (f.expBits + f.fracBits)) :
    (f.pack neg n).toNat = (if neg then 2 ^ (f.expBits + f.fracBits) else 0) + n := by
  rw [FloatFormat.pack, BitVec.toNat_ofNat]
  refine Nat.mod_eq_of_lt (lt_of_lt_of_le ?_ (two_pow_totalBits_le format))
  rw [Nat.pow_succ]
  split <;> omega

theorem toNat_pack_lt (neg : Bool) {n : Nat} (fits : n < 2 ^ (f.expBits + f.fracBits)) :
    (f.pack neg n).toNat < 2 ^ (f.expBits + f.fracBits + 1) := by
  rw [toNat_pack format neg fits, Nat.pow_succ]
  split <;> omega

theorem magBits_pack (neg : Bool) {n : Nat} (fits : n < 2 ^ (f.expBits + f.fracBits)) :
    f.magBits (f.pack neg n) = n := by
  rw [FloatFormat.magBits, toNat_pack format neg fits]
  cases neg
  · rw [if_neg Bool.false_ne_true, Nat.zero_add, Nat.mod_eq_of_lt fits]
  · rw [if_pos rfl, Nat.add_mod_left, Nat.mod_eq_of_lt fits]

theorem signOf_pack (neg : Bool) {n : Nat} (fits : n < 2 ^ (f.expBits + f.fracBits)) :
    f.signOf (f.pack neg n) = neg := by
  rw [FloatFormat.signOf, ← BitVec.testBit_toNat, toNat_pack format neg fits]
  cases neg
  · rw [if_neg Bool.false_ne_true, Nat.zero_add, Nat.testBit_lt_two_pow fits]
  · rw [if_pos rfl, Nat.testBit_two_pow_add_eq, Nat.testBit_lt_two_pow fits]
    rfl

/-- An encoding is put together from its sign and the rest. -/
theorem pack_signOf_magBits {b : Dword} (fits : b.toNat < 2 ^ (f.expBits + f.fracBits + 1)) :
    f.pack (f.signOf b) (f.magBits b) = b := by
  have top : b.toNat / 2 ^ (f.expBits + f.fracBits) < 2 := by
    rw [Nat.div_lt_iff_lt_mul (Nat.two_pow_pos _), ← Nat.pow_succ']
    exact fits
  have parts := Nat.div_add_mod b.toNat (2 ^ (f.expBits + f.fracBits))
  apply BitVec.eq_of_toNat_eq
  rw [toNat_pack format _ (magBits_lt b), FloatFormat.signOf, ← BitVec.testBit_toNat,
    Nat.testBit_eq_decide_div_mod_eq, FloatFormat.magBits]
  generalize b.toNat / 2 ^ (f.expBits + f.fracBits) = sign at *
  interval_cases sign <;> simpa using parts

end

/-! ## The sequence of magnitudes -/

/-- The magnitude an encoding without its sign stands for, as `FloatFormat.value` reads its fields; the numbers from
`infBits` on are those of a format with no bound on the exponent. -/
def FloatFormat.magnitude (f : FloatFormat) (n : Nat) : ℚ :=
  if n / 2 ^ f.fracBits = 0 then (n % 2 ^ f.fracBits : Nat) * (2 : ℚ) ^ (f.minExp - f.fracBits)
  else (2 ^ f.fracBits + n % 2 ^ f.fracBits : Nat) * (2 : ℚ) ^ ((n / 2 ^ f.fracBits : Nat) - f.bias - f.fracBits : Int)

/-- The magnitude with significand `r` in the `j`-th binade: the quantum there is `2^(j + minExp - fracBits)`. -/
theorem magnitude_add (f : FloatFormat) {j r : Nat} (most : r ≤ 2 ^ (f.fracBits + 1))
    (normal : 2 ^ f.fracBits ≤ r ∨ j = 0) :
    f.magnitude (j * 2 ^ f.fracBits + r) = r * (2 : ℚ) ^ (j + f.minExp - f.fracBits) := by
  have pos := Nat.two_pow_pos f.fracBits
  rw [Nat.pow_succ] at most
  unfold FloatFormat.magnitude FloatFormat.minExp
  rcases lt_or_ge r (2 ^ f.fracBits) with below | least
  · obtain rfl : j = 0 := normal.resolve_left (not_le.mpr below)
    rw [Nat.zero_mul, Nat.zero_add, Nat.div_eq_of_lt below, Nat.mod_eq_of_lt below, if_pos rfl]
    simp
  · obtain ⟨d, rfl⟩ := Nat.exists_eq_add_of_le least
    have place : j * 2 ^ f.fracBits + (2 ^ f.fracBits + d) = d + (j + 1) * 2 ^ f.fracBits := by ring
    rw [place, Nat.add_mul_div_right _ _ pos, Nat.add_mul_mod_self_right]
    rcases Nat.lt_or_ge d (2 ^ f.fracBits) with inside | last
    · rw [Nat.div_eq_of_lt inside, Nat.mod_eq_of_lt inside, if_neg (by omega)]
      congr 2
      push_cast
      ring
    · obtain rfl : d = 2 ^ f.fracBits := by omega
      rw [Nat.div_self pos, Nat.mod_self, if_neg (by omega)]
      have twice : ((2 ^ f.fracBits + 2 ^ f.fracBits : Nat) : ℚ) = (2 ^ f.fracBits : Nat) * 2 := by push_cast; ring
      rw [twice, Nat.add_zero, mul_assoc, ← zpow_one_add₀ two_ne_zero]
      congr 2
      push_cast
      ring

/-- Two magnitudes that follow one another are neighbouring multiples of one quantum. -/
theorem exists_quantum (f : FloatFormat) (n : Nat) : ∃ (r : Nat) (q : Int), r < 2 ^ (f.fracBits + 1) ∧
    f.magnitude n = r * (2 : ℚ) ^ q ∧ f.magnitude (n + 1) = (r + 1 : Nat) * (2 : ℚ) ^ q := by
  have pos := Nat.two_pow_pos f.fracBits
  rcases lt_or_ge n (2 ^ f.fracBits) with below | least
  · refine ⟨n, (0 : Nat) + f.minExp - f.fracBits, by omega, ?_, ?_⟩
    · simpa using magnitude_add f (j := 0) (r := n) (by omega) (.inr rfl)
    · simpa using magnitude_add f (j := 0) (r := n + 1) (by omega) (.inr rfl)
  · obtain ⟨d, rfl⟩ := Nat.exists_eq_add_of_le least
    have small := Nat.mod_lt d pos
    have parts := Nat.div_add_mod' d (2 ^ f.fracBits)
    refine ⟨2 ^ f.fracBits + d % 2 ^ f.fracBits, (d / 2 ^ f.fracBits : Nat) + f.minExp - f.fracBits, by omega, ?_, ?_⟩
    · rw [← magnitude_add f (by omega) (.inl (by omega))]
      congr 1
      omega
    · rw [← magnitude_add f (by omega) (.inl (by omega))]
      congr 1
      omega

theorem magnitude_strictMono (f : FloatFormat) : StrictMono f.magnitude :=
  strictMono_nat_of_lt_succ fun n => by
    obtain ⟨r, q, -, here, next⟩ := exists_quantum f n
    rw [here, next]
    exact mul_lt_mul_of_pos_right (Nat.cast_lt.mpr r.lt_succ_self) (zpow_pos two_pos q)

theorem magnitude_zero (f : FloatFormat) : f.magnitude 0 = 0 := by simp [FloatFormat.magnitude]

theorem magnitude_nonneg (f : FloatFormat) (n : Nat) : 0 ≤ f.magnitude n :=
  (magnitude_zero f).symm.le.trans ((magnitude_strictMono f).monotone n.zero_le)

/-! ## The number of an encoding -/

theorem rational_of_infBits_le {b : Dword} (beyond : f.infBits ≤ f.magBits b) : f.rational b = none := by
  rw [← expOf_eq_top_iff] at beyond
  rw [FloatFormat.rational, FloatFormat.value, if_pos beyond]
  by_cases frac : f.fracOf b = 0
  · rw [if_pos frac]
  · rw [if_neg frac]

theorem rational_of_lt_infBits {b : Dword} (finite : f.magBits b < f.infBits) :
    f.rational b = some ((if f.signOf b then -1 else 1) * f.magnitude (f.magBits b)) := by
  rw [← not_le, ← expOf_eq_top_iff] at finite
  rw [FloatFormat.rational, FloatFormat.value, FloatFormat.magnitude, ← expOf_eq, ← fracOf_eq, if_neg finite]
  by_cases subnormal : f.expOf b = 0
  · rw [if_pos subnormal, if_pos subnormal]
    exact congrArg some (mul_assoc ..)
  · rw [if_neg subnormal, if_neg subnormal]
    exact congrArg some (mul_assoc ..)

theorem rational_eq_some_iff_magnitude {b : Dword} {x : ℚ} : f.rational b = some x ↔
    f.magBits b < f.infBits ∧ x = (if f.signOf b then -1 else 1) * f.magnitude (f.magBits b) := by
  rcases lt_or_ge (f.magBits b) f.infBits with finite | beyond
  · rw [rational_of_lt_infBits finite, Option.some.injEq, eq_comm, and_iff_right finite]
  · rw [rational_of_infBits_le beyond]
    exact iff_of_false nofun fun h => absurd h.1 (not_lt.mpr beyond)

theorem abs_of_rational {b : Dword} {x : ℚ} (number : f.rational b = some x) : |x| = f.magnitude (f.magBits b) := by
  rw [(rational_eq_some_iff_magnitude.mp number).2, abs_mul, abs_of_nonneg (magnitude_nonneg ..)]
  split <;> simp

theorem signOf_of_rational {b : Dword} {x : ℚ} (number : f.rational b = some x) (nonzero : x ≠ 0) :
    f.signOf b = decide (x < 0) := by
  obtain ⟨-, rfl⟩ := rational_eq_some_iff_magnitude.mp number
  have positive : 0 < f.magnitude (f.magBits b) :=
    (magnitude_nonneg ..).lt_of_ne fun zero => nonzero (by rw [← zero, mul_zero])
  cases f.signOf b <;> simp [positive, positive.le]

theorem rational_pack (format : f = FloatFormat.single ∨ f = FloatFormat.double) (neg : Bool) {n : Nat}
    (finite : n < f.infBits) : f.rational (f.pack neg n) = some ((if neg then -1 else 1) * f.magnitude n) := by
  have fits := finite.trans infBits_lt
  rw [rational_eq_some_iff_magnitude, magBits_pack format neg fits, signOf_pack format neg fits]
  exact ⟨finite, rfl⟩

end Sys2Proof.Machine
end

section
/-! PROOF. Rounding into an increasing sequence: the term below the exact value or the next one, by the mode (R393). The
multiples of a quantum and the magnitudes of a format are such sequences, and what `FloatFormat.round` delivers is the
rounding into the second. -/

namespace Sys2Proof.Machine

/-! ## Rounding into a sequence -/

/-- Between the neighbours `lo ≤ v < hi` the mode picks the upper one; `odd` says that the lower one is not the even
one. -/
def PicksUpper (rm : Rounding) (neg : Bool) (lo hi v : ℝ) (odd : Prop) : Prop :=
  match rm with
  | .nearest => lo + hi < 2 * v ∨ (lo + hi = 2 * v ∧ odd)
  | .zero => False
  | .up => lo ≠ v ∧ neg = false
  | .down => lo ≠ v ∧ neg = true

/-- Term `k` of the sequence `g` is what `v` is rounded to: the last term up to `v`, or the next one. -/
def RoundsIn (g : Nat → ℝ) (rm : Rounding) (neg : Bool) (v : ℝ) (k : Nat) : Prop :=
  ∃ n, g n ≤ v ∧ v < g (n + 1) ∧
    ((k = n + 1 ∧ PicksUpper rm neg (g n) (g (n + 1)) v (n % 2 = 1)) ∨
     (k = n ∧ ¬PicksUpper rm neg (g n) (g (n + 1)) v (n % 2 = 1)))

/-- `v` is rounded to `hi` or beyond, where `lo` and `hi` are neighbours and `hi` is the even one. -/
def Passes (rm : Rounding) (neg : Bool) (lo hi v : ℝ) : Prop :=
  (TowardZero rm neg → hi ≤ v) ∧ (AwayFromZero rm neg → lo < v) ∧ (rm = .nearest → lo + hi ≤ 2 * v)

section
variable {rm : Rounding} {neg : Bool} {lo hi v : ℝ} {odd : Prop}

/-- Every mode is of exactly one of three kinds. -/
theorem mode_cases (rm : Rounding) (neg : Bool) :
    (TowardZero rm neg ∧ ¬AwayFromZero rm neg ∧ rm ≠ .nearest) ∨
    (AwayFromZero rm neg ∧ ¬TowardZero rm neg ∧ rm ≠ .nearest) ∨
    (rm = .nearest ∧ ¬TowardZero rm neg ∧ ¬AwayFromZero rm neg) := by
  unfold TowardZero AwayFromZero
  cases rm <;> cases neg <;> simp

theorem picksUpper_iff_of_toward (toward : TowardZero rm neg) : PicksUpper rm neg lo hi v odd ↔ False := by
  rcases toward with rfl | ⟨rfl, rfl⟩ | ⟨rfl, rfl⟩ <;> simp [PicksUpper]

theorem picksUpper_iff_of_away (away : AwayFromZero rm neg) : PicksUpper rm neg lo hi v odd ↔ lo ≠ v := by
  rcases away with ⟨rfl, rfl⟩ | ⟨rfl, rfl⟩ <;> simp [PicksUpper]

theorem picksUpper_nearest_iff :
    PicksUpper .nearest neg lo hi v odd ↔ lo + hi < 2 * v ∨ (lo + hi = 2 * v ∧ odd) := Iff.rfl

/-- An exact value is not moved. -/
theorem not_picksUpper_of_exact (exact : lo = v) (lt : lo < hi) : ¬PicksUpper rm neg lo hi v odd := by
  rcases mode_cases rm neg with ⟨toward, -⟩ | ⟨away, -⟩ | ⟨rfl, -⟩
  · rw [picksUpper_iff_of_toward toward]
    exact id
  · rw [picksUpper_iff_of_away away]
    exact fun ne => ne exact
  · rw [picksUpper_nearest_iff]
    rintro (above | ⟨tie, -⟩) <;> linarith

theorem picksUpper_mul {c : ℝ} (pos : 0 < c) :
    PicksUpper rm neg (lo * c) (hi * c) (v * c) odd ↔ PicksUpper rm neg lo hi v odd := by
  rcases mode_cases rm neg with ⟨toward, -⟩ | ⟨away, -⟩ | ⟨rfl, -⟩
  · rw [picksUpper_iff_of_toward toward, picksUpper_iff_of_toward toward]
  · rw [picksUpper_iff_of_away away, picksUpper_iff_of_away away, Ne, mul_left_inj' pos.ne']
  · rw [picksUpper_nearest_iff, picksUpper_nearest_iff, ← add_mul, ← mul_assoc, mul_lt_mul_iff_left₀ pos,
      mul_left_inj' pos.ne']

/-- Rounding up to the even neighbour is passing to it. -/
theorem picksUpper_iff_passes (le : lo ≤ v) (lt : v < hi) (isOdd : odd) :
    PicksUpper rm neg lo hi v odd ↔ Passes rm neg lo hi v := by
  unfold Passes
  rcases mode_cases rm neg with ⟨toward, notAway, notNearest⟩ | ⟨away, notToward, notNearest⟩ |
    ⟨rfl, notToward, notAway⟩
  · simp [picksUpper_iff_of_toward toward, toward, notAway, notNearest, lt]
  · simp [picksUpper_iff_of_away away, away, notToward, notNearest, le.lt_iff_ne]
  · simp [picksUpper_nearest_iff, notToward, notAway, isOdd, le_iff_lt_or_eq]

theorem passes_of_le (lt : lo < hi) (le : hi ≤ v) : Passes rm neg lo hi v :=
  ⟨fun _ => le, fun _ => lt.trans_le le, fun _ => by linarith⟩

theorem not_passes_of_lt (lt : lo < hi) (below : v < lo) : ¬Passes rm neg lo hi v := by
  rintro ⟨ofToward, ofAway, ofNearest⟩
  rcases mode_cases rm neg with ⟨toward, -⟩ | ⟨away, -⟩ | ⟨nearest, -⟩
  · linarith [ofToward toward]
  · linarith [ofAway away]
  · linarith [ofNearest nearest]

end

section
variable {g : Nat → ℝ} (mono : StrictMono g) {rm : Rounding} {neg : Bool} {v : ℝ} {k : Nat}
  (rounds : RoundsIn g rm neg v k)
include mono rounds

/-- Rounding reaches a term with an even place exactly when it passes to it. -/
theorem RoundsIn.le_iff_passes {n : Nat} (isOdd : n % 2 = 1) : n + 1 ≤ k ↔ Passes rm neg (g n) (g (n + 1)) v := by
  obtain ⟨i, le, lt, place⟩ := rounds
  have step := mono n.lt_succ_self
  rcases lt_trichotomy i n with below | rfl | above
  · refine iff_of_false (by omega) (not_passes_of_lt step (lt.trans_le (mono.monotone ?_)))
    exact below
  · rw [← picksUpper_iff_passes le lt isOdd]
    rcases place with ⟨rfl, upper⟩ | ⟨rfl, lower⟩
    · exact iff_of_true le_rfl upper
    · exact iff_of_false (by omega) lower
  · refine iff_of_true (by omega) (passes_of_le step ((mono.monotone ?_).trans le))
    exact above

theorem RoundsIn.le_of_lt {n : Nat} (below : v < g n) : k ≤ n := by
  obtain ⟨i, le, -, place⟩ := rounds
  have := mono.lt_iff_lt.mp (le.trans_lt below)
  omega

/-- Toward zero: the last term up to the value. -/
theorem RoundsIn.of_toward (toward : TowardZero rm neg) : g k ≤ v ∧ ∀ n, g n ≤ v → g n ≤ g k := by
  obtain ⟨i, le, lt, place⟩ := rounds
  rw [picksUpper_iff_of_toward toward] at place
  obtain rfl : k = i := by tauto
  exact ⟨le, fun n below => mono.monotone (Nat.lt_succ_iff.mp (mono.lt_iff_lt.mp (below.trans_lt lt)))⟩

/-- Away from zero: the first term from the value on. -/
theorem RoundsIn.of_away (away : AwayFromZero rm neg) : v ≤ g k ∧ ∀ n, v ≤ g n → g k ≤ g n := by
  obtain ⟨i, le, lt, place⟩ := rounds
  rw [picksUpper_iff_of_away away, not_not] at place
  rcases place with ⟨rfl, inexact⟩ | ⟨rfl, exact⟩
  · exact ⟨lt.le, fun n above => mono.monotone (mono.lt_iff_lt.mp ((le.lt_of_ne inexact).trans_le above))⟩
  · exact ⟨exact.ge, fun n above => exact.trans_le above⟩

/-- To nearest: no term is nearer, and one that is as near leaves the even place. -/
theorem RoundsIn.of_nearest (nearest : rm = .nearest) (n : Nat) :
    |v - g k| ≤ |v - g n| ∧ (|v - g k| = |v - g n| → g n ≠ g k → k % 2 = 0) := by
  obtain ⟨i, le, lt, place⟩ := rounds
  subst nearest
  rw [picksUpper_nearest_iff] at place
  have far : |v - g n| = v - g n ∧ g n ≤ g i ∨ |v - g n| = g n - v ∧ g (i + 1) ≤ g n := by
    rcases Nat.lt_or_ge i n with above | below
    · have := mono.monotone (show i + 1 ≤ n from above)
      exact .inr ⟨by rw [abs_of_neg (by linarith)]; ring, this⟩
    · have := mono.monotone below
      exact .inl ⟨abs_of_nonneg (by linarith), this⟩
  rcases place with ⟨rfl, upper⟩ | ⟨rfl, lower⟩
  · have near : |v - g (i + 1)| = g (i + 1) - v := by rw [abs_of_neg (by linarith)]; ring
    have half : g i + g (i + 1) ≤ 2 * v := by rcases upper with above | ⟨tie, -⟩ <;> linarith
    rw [near]
    rcases far with ⟨e, below⟩ | ⟨e, above⟩ <;> rw [e]
    · refine ⟨by linarith, fun equal _ => ?_⟩
      rcases upper with above | ⟨-, isOdd⟩
      · linarith
      · omega
    · exact ⟨by linarith, fun equal other => absurd (by linarith) other⟩
  · have near : |v - g k| = v - g k := abs_of_nonneg (by linarith)
    have half : 2 * v ≤ g k + g (k + 1) := le_of_not_gt fun above => lower (.inl above)
    rw [near]
    rcases far with ⟨e, below⟩ | ⟨e, above⟩ <;> rw [e]
    · exact ⟨by linarith, fun equal other => absurd (by linarith) other⟩
    · refine ⟨by linarith, fun equal _ => ?_⟩
      have isEven : ¬k % 2 = 1 := fun isOdd => lower (.inr ⟨by linarith, isOdd⟩)
      omega

end

/-- A value that is a term of the sequence is rounded to that term. -/
theorem RoundsIn.eq_of_term {g : Nat → ℝ} (mono : StrictMono g) {rm : Rounding} {neg : Bool} {n k : Nat}
    (rounds : RoundsIn g rm neg (g n) k) : k = n := by
  obtain ⟨i, le, lt, place⟩ := rounds
  have := mono.le_iff_le.mp le
  have := mono.lt_iff_lt.mp lt
  obtain rfl : i = n := by omega
  rcases place with ⟨-, upper⟩ | ⟨same, -⟩
  · exact absurd upper (not_picksUpper_of_exact rfl lt)
  · exact same

/-! ## Rounding to a multiple of a quantum -/

/-- `roundShift` picks as the sequence of multiples does. -/
theorem roundsAway_iff_picksUpper {rm : Rounding} {neg : Bool} (m k : Nat) : RoundsAway rm neg m k ↔
    PicksUpper rm neg (m / 2 ^ k * 2 ^ k : Nat) ((m / 2 ^ k + 1) * 2 ^ k : Nat) m (m / 2 ^ k % 2 = 1) := by
  have parts := Nat.div_add_mod' m (2 ^ k)
  have small := Nat.mod_lt m (Nat.two_pow_pos k)
  have exact : ((m / 2 ^ k * 2 ^ k : Nat) : ℝ) ≠ m ↔ m % 2 ^ k ≠ 0 := by
    rw [Ne, Nat.cast_inj]
    omega
  cases rm with
  | nearest =>
    have half : ((m / 2 ^ k * 2 ^ k : Nat) : ℝ) + ((m / 2 ^ k + 1) * 2 ^ k : Nat) =
        (2 * (m / 2 ^ k * 2 ^ k) + 2 ^ k : Nat) := by push_cast; ring
    rw [picksUpper_nearest_iff, half, RoundsAway]
    norm_cast
    omega
  | zero => exact Iff.rfl
  | up => exact and_congr_left' exact.symm
  | down => exact and_congr_left' exact.symm

theorem two_zpow_toNat_mul {a b : Int} (le : a ≤ b) : (2 : ℝ) ^ (b - a).toNat * 2 ^ a = 2 ^ b := by
  rw [← zpow_natCast, ← zpow_add₀ two_ne_zero, Int.toNat_of_nonneg (by omega), Int.sub_add_cancel]

theorem multiples_strictMono (q : Int) : StrictMono fun n : Nat => (n : ℝ) * 2 ^ q := fun _ _ lt =>
  mul_lt_mul_of_pos_right (Nat.cast_lt.mpr lt) (zpow_pos two_pos q)

/-- `roundToQuantum` rounds into the multiples of the quantum and reports what is not exact. -/
theorem roundToQuantum_roundsIn {rm : Rounding} {neg : Bool} {m r : Nat} {e q : Int} {lost : Bool}
    (h : roundToQuantum rm neg m e q = (r, lost)) :
    RoundsIn (fun n => n * (2 : ℝ) ^ q) rm neg (m * (2 : ℝ) ^ e) r ∧ (lost = true ↔ r * (2 : ℝ) ^ q ≠ m * 2 ^ e) := by
  have pos : (0 : ℝ) < 2 ^ e := zpow_pos two_pos e
  unfold roundToQuantum at h
  split at h
  case isTrue le =>
    obtain ⟨rfl, rfl⟩ := Prod.mk.inj h
    have exact : ((m * 2 ^ (e - q).toNat : Nat) : ℝ) * 2 ^ q = m * 2 ^ e := by
      push_cast
      rw [mul_assoc, two_zpow_toNat_mul le]
    have next : ((m * 2 ^ (e - q).toNat : Nat) : ℝ) * 2 ^ q < (m * 2 ^ (e - q).toNat + 1 : Nat) * 2 ^ q :=
      multiples_strictMono q (Nat.lt_succ_self _)
    exact ⟨⟨_, exact.le, exact ▸ next, .inr ⟨rfl, not_picksUpper_of_exact exact next⟩⟩,
      iff_of_false Bool.false_ne_true (not_not.mpr exact)⟩
  case isFalse lt =>
    have scale (n : Nat) : (n : ℝ) * 2 ^ q = (n * 2 ^ (q - e).toNat : Nat) * 2 ^ e := by
      push_cast
      rw [mul_assoc, two_zpow_toNat_mul (by omega)]
    have parts := Nat.div_add_mod' m (2 ^ (q - e).toNat)
    have small := Nat.mod_lt m (Nat.two_pow_pos (q - e).toNat)
    have pick := (roundsAway_iff_picksUpper (rm := rm) (neg := neg) m (q - e).toNat).trans (picksUpper_mul pos).symm
    refine ⟨⟨m / 2 ^ (q - e).toNat, ?_, ?_, ?_⟩, ?_⟩
    · dsimp only
      rw [scale, mul_le_mul_iff_left₀ pos, Nat.cast_le]
      omega
    · dsimp only
      rw [scale, mul_lt_mul_iff_left₀ pos, Nat.cast_lt, Nat.add_mul]
      omega
    · dsimp only
      rw [scale, scale, ← pick]
      rcases roundShift_value h with ⟨away, rfl⟩ | ⟨stays, rfl⟩
      · exact .inl ⟨rfl, away⟩
      · exact .inr ⟨rfl, stays⟩
    · rw [roundShift_lost h, scale, Ne, Ne, mul_left_inj' pos.ne', Nat.cast_inj]
      rcases roundShift_multiple h with ⟨away, multiple⟩ | ⟨-, multiple⟩
      · have : m % 2 ^ (q - e).toNat ≠ 0 := fun exact => not_roundsAway_of_exact exact away
        omega
      · omega

end Sys2Proof.Machine
end

section
/-! PROOF. What `FloatFormat.round` delivers (R393): the rounding of the exact value into the magnitudes of the format, with
I where it is not exact and U where it moreover is tiny. A value given by its leading bits and a sticky bit is rounded
like itself, which is how a quotient and a root are. -/

namespace Sys2Proof.Machine

/-- The magnitudes of a format as real numbers. -/
def FloatFormat.scale (f : FloatFormat) (n : Nat) : ℝ := (f.magnitude n : ℝ)

/-- The outcome of a rounding to place `n`: beyond the finite numbers an overflow, else the number of that place. -/
def FloatFormat.delivered (f : FloatFormat) (rm : Rounding) (neg : Bool) (n : Nat) (lost tiny : Bool) : FpOut :=
  if f.infBits ≤ n then .result (f.overflowed rm neg) (Signals.overflow ||| Signals.inexact)
  else .result (f.pack neg n)
    ((if lost then Signals.inexact else 0) ||| (if tiny && lost then Signals.underflow else 0))

/-- `out` is the rounding of the exact number of sign `neg` and magnitude `v`. -/
def Rounds (f : FloatFormat) (nu : Numerics) (rm : Rounding) (neg : Bool) (v : ℝ) (out : FpOut) : Prop :=
  ∃ n lost tiny, out = f.delivered rm neg n lost tiny ∧ RoundsIn f.scale rm neg v n ∧
    (lost = true ↔ f.scale n ≠ v) ∧ (tiny = true ↔ f.Tiny nu.tininess rm neg v)

section
variable (f : FloatFormat)

theorem scale_strictMono : StrictMono f.scale := fun _ _ lt => Rat.cast_lt.mpr (magnitude_strictMono f lt)

theorem scale_add {j r : Nat} (most : r ≤ 2 ^ (f.fracBits + 1)) (normal : 2 ^ f.fracBits ≤ r ∨ j = 0) :
    f.scale (j * 2 ^ f.fracBits + r) = r * (2 : ℝ) ^ (j + f.minExp - f.fracBits) := by
  rw [FloatFormat.scale, magnitude_add f most normal]
  push_cast
  rfl

/-- Two magnitudes that follow one another are neighbouring multiples of one quantum. -/
theorem exists_scale_quantum (n : Nat) : ∃ (r : Nat) (q : Int), r < 2 ^ (f.fracBits + 1) ∧
    f.scale n = r * (2 : ℝ) ^ q ∧ f.scale (n + 1) = (r + 1 : Nat) * (2 : ℝ) ^ q := by
  obtain ⟨r, q, small, here, next⟩ := exists_quantum f n
  refine ⟨r, q, small, ?_, ?_⟩
  · rw [FloatFormat.scale, here]
    push_cast
    rfl
  · rw [FloatFormat.scale, next]
    push_cast
    rfl

end

section
variable {f : FloatFormat} {rm : Rounding} {neg : Bool} {v : ℝ}

/-- A rounding to a multiple of the quantum of a binade is a rounding into the magnitudes. -/
theorem roundsIn_scale_of_quantum (positive : 0 < f.fracBits) {j r : Nat} {q : Int}
    (quantum : q = j + f.minExp - f.fracBits) (below : v < (2 ^ (f.fracBits + 1) : Nat) * (2 : ℝ) ^ q)
    (least : (2 ^ f.fracBits : Nat) * (2 : ℝ) ^ q ≤ v ∨ j = 0) (rounds : RoundsIn (fun n => n * (2 : ℝ) ^ q) rm neg v r) :
    RoundsIn f.scale rm neg v (j * 2 ^ f.fracBits + r) ∧ f.scale (j * 2 ^ f.fracBits + r) = r * (2 : ℝ) ^ q ∧
      (2 ^ f.fracBits ≤ r ∨ j = 0) := by
  obtain ⟨n, le, lt, place⟩ := rounds
  dsimp only at le lt place
  have pos : (0 : ℝ) < 2 ^ q := zpow_pos two_pos q
  have most : n < 2 ^ (f.fracBits + 1) := Nat.cast_lt.mp (lt_of_mul_lt_mul_right (le.trans_lt below) pos.le)
  have normal : 2 ^ f.fracBits ≤ n ∨ j = 0 := least.imp_left fun least =>
    Nat.lt_succ_iff.mp (Nat.cast_lt.mp (lt_of_mul_lt_mul_right (least.trans_lt lt) pos.le))
  have here : f.scale (j * 2 ^ f.fracBits + n) = n * (2 : ℝ) ^ q := quantum ▸ scale_add f most.le normal
  have next : f.scale (j * 2 ^ f.fracBits + n + 1) = (n + 1 : Nat) * (2 : ℝ) ^ q :=
    quantum ▸ scale_add f (r := n + 1) most (by omega)
  have parity : (j * 2 ^ f.fracBits + n) % 2 = n % 2 := by
    obtain ⟨p, hp⟩ := Nat.exists_eq_succ_of_ne_zero positive.ne'
    rw [hp, Nat.pow_succ, ← Nat.mul_assoc, Nat.mul_add_mod']
  have bracket : f.scale (j * 2 ^ f.fracBits + n) ≤ v ∧ v < f.scale (j * 2 ^ f.fracBits + n + 1) := by
    rw [here, next]
    exact ⟨le, lt⟩
  have pick : PicksUpper rm neg (f.scale (j * 2 ^ f.fracBits + n)) (f.scale (j * 2 ^ f.fracBits + n + 1)) v
      ((j * 2 ^ f.fracBits + n) % 2 = 1) ↔ PicksUpper rm neg (n * (2 : ℝ) ^ q) ((n + 1 : Nat) * (2 : ℝ) ^ q) v
        (n % 2 = 1) := by
    rw [here, next, parity]
  rcases place with ⟨rfl, upper⟩ | ⟨rfl, lower⟩
  · exact ⟨⟨_, bracket.1, bracket.2, .inl ⟨rfl, pick.mpr upper⟩⟩, next, by omega⟩
  · exact ⟨⟨_, bracket.1, bracket.2, .inr ⟨rfl, mt pick.mp lower⟩⟩, here, normal⟩

/-! ## The binade of `m · 2^e` -/

section
variable {m : Nat} (e : Int)

theorem lt_two_zpow_top : (m : ℝ) * 2 ^ e < 2 ^ (e + Nat.log2 m + 1) := by
  rw [add_assoc, add_comm, zpow_add₀ two_ne_zero, ← Nat.cast_succ, zpow_natCast]
  exact mul_lt_mul_of_pos_right (mod_cast Nat.lt_log2_self) (zpow_pos two_pos e)

variable (nonzero : m ≠ 0)
include nonzero

theorem two_zpow_top_le : (2 : ℝ) ^ (e + Nat.log2 m) ≤ m * 2 ^ e := by
  rw [add_comm, zpow_add₀ two_ne_zero, zpow_natCast]
  exact mul_le_mul_of_nonneg_right (mod_cast Nat.log2_self_le nonzero) (zpow_pos two_pos e).le

theorem top_lt_iff {a : Int} : e + Nat.log2 m < a ↔ (m : ℝ) * 2 ^ e < 2 ^ a := by
  constructor
  · intro lt
    exact (lt_two_zpow_top e).trans_le (zpow_le_zpow_right₀ one_le_two lt)
  · intro lt
    exact (zpow_lt_zpow_iff_right₀ one_lt_two).mp ((two_zpow_top_le e nonzero).trans_lt lt)

end

theorem natCast_two_pow_mul (n : Nat) (q : Int) : ((2 ^ n : Nat) : ℝ) * 2 ^ q = 2 ^ (n + q) := by
  rw [Nat.cast_pow, Nat.cast_two, zpow_add₀ two_ne_zero, zpow_natCast]

/-! ## Tininess (R393) -/

/-- Tiny after rounding: with one more place below the least normal number, the rounding does not pass to it. -/
theorem tiny_afterRounding_iff : f.Tiny .afterRounding rm neg v ↔
    ¬Passes rm neg (2 ^ f.minExp - 2 ^ (f.minExp - f.fracBits - 1)) (2 ^ f.minExp) v := by
  have half : (2 : ℝ) ^ (f.minExp - f.fracBits) = 2 * 2 ^ (f.minExp - f.fracBits - 1) := by
    rw [← zpow_one_add₀ two_ne_zero, add_sub_cancel]
  unfold FloatFormat.Tiny Passes
  dsimp only
  rw [half]
  rcases mode_cases rm neg with ⟨toward, notAway, notNearest⟩ | ⟨away, notToward, notNearest⟩ |
    ⟨rfl, notToward, notAway⟩
  · simp [toward, notAway, notNearest]
  · simp [away, notToward, notNearest]
  · simp only [notToward, notAway, reduceCtorEq, IsEmpty.forall_iff, true_and, forall_true_left, not_le]
    constructor <;> intro below <;> linarith

/-- In the binade below the least normal number, the rounding with one more place is tested against its end. -/
theorem passes_iff_of_binade_below {m : Nat} {e q : Int} (below : (m : ℝ) * 2 ^ e < 2 ^ f.minExp)
    (quantum : q = f.minExp - f.fracBits - 1) : (roundToQuantum rm neg m e q).1 = 2 ^ (f.fracBits + 1) ↔
      Passes rm neg (2 ^ f.minExp - 2 ^ (f.minExp - f.fracBits - 1)) (2 ^ f.minExp) (m * (2 : ℝ) ^ e) := by
  rcases rounded : roundToQuantum rm neg m e q with ⟨r, lost⟩
  have rounds := (roundToQuantum_roundsIn rounded).1
  have most := Nat.one_le_two_pow (n := f.fracBits + 1)
  have hi : ((2 ^ (f.fracBits + 1) : Nat) : ℝ) * 2 ^ q = 2 ^ f.minExp := by
    rw [natCast_two_pow_mul, quantum]
    congr 1
    push_cast
    ring
  have lo : ((2 ^ (f.fracBits + 1) - 1 : Nat) : ℝ) * 2 ^ q = 2 ^ f.minExp - 2 ^ (f.minExp - f.fracBits - 1) := by
    rw [Nat.cast_sub most, sub_mul, hi, Nat.cast_one, one_mul, quantum]
  have reaches := rounds.le_iff_passes (multiples_strictMono q) (n := 2 ^ (f.fracBits + 1) - 1) (by
    rw [Nat.pow_succ]
    omega)
  have bound := rounds.le_of_lt (multiples_strictMono q) (n := 2 ^ (f.fracBits + 1)) (hi ▸ below)
  rw [Nat.sub_add_cancel most, hi, lo] at reaches
  rw [← reaches]
  omega

theorem isTiny_afterRounding_iff {m : Nat} (e : Int) (nonzero : m ≠ 0) :
    f.isTiny .afterRounding rm neg m e = true ↔ f.Tiny .afterRounding rm neg (m * (2 : ℝ) ^ e) := by
  have least : (2 : ℝ) ^ (f.minExp - 1) ≤ 2 ^ f.minExp - 2 ^ (f.minExp - f.fracBits - 1) := by
    have half : (2 : ℝ) ^ f.minExp = 2 * 2 ^ (f.minExp - 1) := by rw [← zpow_one_add₀ two_ne_zero, add_sub_cancel]
    have small : (2 : ℝ) ^ (f.minExp - f.fracBits - 1) ≤ 2 ^ (f.minExp - 1) :=
      zpow_le_zpow_right₀ one_le_two (by omega)
    linarith
  have step : (2 : ℝ) ^ f.minExp - 2 ^ (f.minExp - f.fracBits - 1) < 2 ^ f.minExp :=
    sub_lt_self _ (zpow_pos two_pos _)
  rw [tiny_afterRounding_iff, FloatFormat.isTiny]
  simp only [Bool.and_eq_true, Bool.not_eq_true', Bool.and_eq_false_iff, decide_eq_true_eq, decide_eq_false_iff_not]
  rcases lt_trichotomy (e + Nat.log2 m + 1) f.minExp with below | next | above
  · refine iff_of_true ⟨by omega, .inl (by omega)⟩ (not_passes_of_lt step (lt_of_lt_of_le ?_ least))
    exact (top_lt_iff e nonzero).mp (by omega)
  · rw [← passes_iff_of_binade_below (q := e + Nat.log2 m - f.fracBits) ((top_lt_iff e nonzero).mp (by omega))
        (by omega),
      and_iff_right (by omega), or_iff_right (not_not.mpr next)]
  · refine iff_of_false (by omega) (not_not.mpr (passes_of_le step ?_))
    exact (zpow_le_zpow_right₀ one_le_two (by omega)).trans (two_zpow_top_le e nonzero)

theorem isTiny_iff (t : Tininess) {m : Nat} (e : Int) (nonzero : m ≠ 0) :
    f.isTiny t rm neg m e = true ↔ f.Tiny t rm neg (m * (2 : ℝ) ^ e) := by
  cases t with
  | afterRounding => exact isTiny_afterRounding_iff e nonzero
  | beforeRounding =>
    rw [FloatFormat.isTiny, decide_eq_true_iff, top_lt_iff e nonzero]
    simp [FloatFormat.Tiny]

/-! ## Overflow (R393) -/

theorem infBits_eq (format : f = FloatFormat.single ∨ f = FloatFormat.double) :
    f.infBits = (2 * f.bias - 1) * 2 ^ f.fracBits + 2 ^ (f.fracBits + 1) := by
  obtain ⟨b, hb⟩ := Nat.exists_eq_succ_of_ne_zero (bias_pos format).ne'
  rw [FloatFormat.infBits, two_pow_expBits format, hb, Nat.pow_succ, ← Nat.mul_comm 2, ← Nat.add_mul]
  congr 1

/-- The least number beyond the finite ones, and the largest finite one. -/
theorem scale_infBits (format : f = FloatFormat.single ∨ f = FloatFormat.double) :
    f.scale f.infBits = 2 ^ ((f.bias : Int) + 1) ∧
    f.scale (f.infBits - 1) = 2 ^ ((f.bias : Int) + 1) - 2 ^ ((f.bias : Int) - f.fracBits) := by
  have pos := bias_pos format
  have two := Nat.one_le_two_pow (n := f.fracBits)
  have quantum : ((2 * f.bias - 1 : Nat) : Int) + f.minExp - f.fracBits = f.bias - f.fracBits := by
    rw [FloatFormat.minExp]
    omega
  have top : ((2 ^ (f.fracBits + 1) : Nat) : ℝ) * 2 ^ ((f.bias : Int) - f.fracBits) = 2 ^ ((f.bias : Int) + 1) := by
    rw [natCast_two_pow_mul]
    congr 1
    push_cast
    ring
  have most := scale_add f (j := 2 * f.bias - 1) (r := 2 ^ (f.fracBits + 1)) le_rfl (.inl (by omega))
  have last := scale_add f (j := 2 * f.bias - 1) (r := 2 ^ (f.fracBits + 1) - 1) (by omega) (.inl (by omega))
  rw [quantum] at most last
  rw [infBits_eq format, Nat.add_sub_assoc (by omega), most, last, top]
  refine ⟨rfl, ?_⟩
  rw [Nat.cast_sub (by omega), sub_mul, top, Nat.cast_one, one_mul]

theorem overflows_iff_passes (f : FloatFormat) : f.Overflows rm neg v ↔
    Passes rm neg (2 ^ ((f.bias : Int) + 1) - 2 ^ ((f.bias : Int) - f.fracBits)) (2 ^ ((f.bias : Int) + 1)) v := by
  unfold FloatFormat.Overflows Passes
  refine and_congr_right fun _ => and_congr_right fun _ => imp_congr_right fun _ => ?_
  constructor <;> intro reached <;> linarith

theorem overflows_iff (format : f = FloatFormat.single ∨ f = FloatFormat.double) {n : Nat}
    (rounds : RoundsIn f.scale rm neg v n) : f.Overflows rm neg v ↔ f.infBits ≤ n := by
  obtain ⟨top, largest⟩ := scale_infBits format
  have place : f.infBits - 1 + 1 = f.infBits := Nat.sub_add_cancel (by
    rw [infBits_eq format]
    exact le_add_left Nat.one_le_two_pow)
  have even : f.infBits % 2 = 0 := by
    obtain ⟨p, hp⟩ := Nat.exists_eq_succ_of_ne_zero (fracBits_pos format).ne'
    rw [FloatFormat.infBits, hp, Nat.pow_succ, ← Nat.mul_assoc, Nat.mul_mod_left]
  rw [overflows_iff_passes, ← largest, ← top]
  have reaches := rounds.le_iff_passes (scale_strictMono f) (n := f.infBits - 1) (by omega)
  rw [place] at reaches
  exact reaches.symm

/-! ## `round` rounds into the format (R393) -/

/-- `round` delivers the rounding of its exact argument. -/
theorem round_rounds (format : f = FloatFormat.single ∨ f = FloatFormat.double) {nu : Numerics}
    (gradual : nu.denormal = .gradual) (fl : Bool) {m : Nat} (e : Int) (nonzero : m ≠ 0) :
    Rounds f nu rm neg (m * (2 : ℝ) ^ e) (f.round nu fl rm neg m e) := by
  have positive := fracBits_pos format
  have top := two_zpow_top_le e nonzero
  have lt := lt_two_zpow_top e (m := m)
  obtain ⟨j, hj⟩ : ∃ j : Nat, max (e + Nat.log2 m) f.minExp = j + f.minExp :=
    ⟨(max (e + Nat.log2 m) f.minExp - f.minExp).toNat, by omega⟩
  rcases rounded : roundToQuantum rm neg m e (max (e + Nat.log2 m) f.minExp - f.fracBits) with ⟨r, lost⟩
  obtain ⟨rounds, inexact⟩ := roundToQuantum_roundsIn rounded
  obtain ⟨roundsIn, value, normal⟩ := roundsIn_scale_of_quantum (j := j) positive (by rw [hj])
    (by
      rw [natCast_two_pow_mul]
      refine lt.trans_le (zpow_le_zpow_right₀ one_le_two ?_)
      push_cast
      omega)
    (by
      rcases le_total f.minExp (e + Nat.log2 m) with above | below
      · left
        rw [natCast_two_pow_mul, max_eq_left above, add_sub_cancel]
        exact top
      · right
        rw [max_eq_right below] at hj
        omega) rounds
  have place : (if 2 ^ f.fracBits ≤ r then
      (max (e + Nat.log2 m) f.minExp - f.fracBits + f.fracBits + f.bias - 1).toNat * 2 ^ f.fracBits + r else r) =
      j * 2 ^ f.fracBits + r := by
    split
    · congr 2
      rw [hj, FloatFormat.minExp]
      omega
    · rename_i below
      rw [normal.resolve_left below, Nat.zero_mul, Nat.zero_add]
  refine ⟨j * 2 ^ f.fracBits + r, lost, f.isTiny nu.tininess rm neg m e, ?_, roundsIn, by rw [value]; exact inexact,
    isTiny_iff _ e nonzero⟩
  rw [FloatFormat.round, if_neg nonzero]
  simp only [rounded, place, gradual]
  rfl

end

end Sys2Proof.Machine
end

section
/-! PROOF. What a rounding delivers is what IEEE 754 says of the exact number (R393), and an exact number of the format is
delivered as it is. -/

namespace Sys2Proof.Machine

variable {f : FloatFormat} {nu : Numerics} {rm : Rounding} {neg : Bool} {v : ℝ} {out : FpOut}

/-! ## Overflow -/

theorem overflowed_of_toward (toward : TowardZero rm neg) : f.overflowed rm neg = f.largest neg := by
  rcases toward with rfl | ⟨rfl, rfl⟩ | ⟨rfl, rfl⟩ <;> rfl

theorem overflowed_of_not_toward (notToward : ¬TowardZero rm neg) : f.overflowed rm neg = f.infinity neg := by
  cases rm with
  | nearest => rfl
  | zero => exact absurd (.inl rfl) notToward
  | up =>
    cases neg with
    | false => rfl
    | true => exact absurd (.inr (.inl ⟨rfl, rfl⟩)) notToward
  | down =>
    cases neg with
    | false => exact absurd (.inr (.inr ⟨rfl, rfl⟩)) notToward
    | true => rfl

theorem abs_signed_magnitude {n : Nat} : |(if neg then -1 else 1) * f.magnitude n| = f.magnitude n := by
  rw [abs_mul, abs_of_nonneg (magnitude_nonneg f n)]
  cases neg <;> simp

theorem signals_bits (lost tiny : Bool) :
    let x : Signals := (if lost then Signals.inexact else 0) ||| (if tiny && lost then Signals.underflow else 0)
    (x.getLsbD 0 = lost) ∧ (x.getLsbD 1 = (lost && tiny)) ∧ x.getLsbD 2 = false ∧ x.getLsbD 3 = false ∧
      x.getLsbD 4 = false := by
  cases lost <;> cases tiny <;> decide

section
variable (format : f = FloatFormat.single ∨ f = FloatFormat.double)
include format

theorem value_infinity (neg : Bool) : f.value (f.infinity neg) = .inf neg := by
  rcases format with rfl | rfl <;> cases neg <;> decide

/-- An overflow delivers an encoding of its sign. -/
theorem overflowed_encoding (rm : Rounding) (neg : Bool) :
    (f.overflowed rm neg).toNat < 2 ^ (f.expBits + f.fracBits + 1) ∧ f.signOf (f.overflowed rm neg) = neg := by
  by_cases toward : TowardZero rm neg
  · have fits := (Nat.sub_le f.infBits 1).trans_lt (infBits_lt (f := f))
    rw [overflowed_of_toward toward]
    exact ⟨toNat_pack_lt format neg fits, signOf_pack format neg fits⟩
  · rw [overflowed_of_not_toward toward]
    exact ⟨toNat_pack_lt format neg infBits_lt, signOf_pack format neg infBits_lt⟩

/-! ## A number of the format -/

theorem getLsbD_zero_pack {n : Nat} (fits : n < 2 ^ (f.expBits + f.fracBits)) (even : n % 2 = 0) :
    (f.pack neg n).getLsbD 0 = false := by
  have top : 2 ^ (f.expBits + f.fracBits) % 2 = 0 := by
    obtain ⟨p, hp⟩ := Nat.exists_eq_succ_of_ne_zero (fracBits_pos format).ne'
    rw [hp, Nat.add_succ, Nat.pow_succ, Nat.mul_mod_left]
  rw [← BitVec.testBit_toNat, toNat_pack format neg fits, Nat.testBit_zero]
  split <;> simp <;> omega

/-- A rounding delivers what IEEE 754 says. -/
theorem delivers_of_rounds (rounds : Rounds f nu rm neg v out) : Delivers f nu rm neg v out := by
  obtain ⟨n, lost, tiny, rfl, place, inexact, tininess⟩ := rounds
  have overflow := overflows_iff format place
  have mono := scale_strictMono f
  unfold FloatFormat.delivered
  rcases lt_or_ge n f.infBits with finite | beyond
  · have fits := finite.trans (infBits_lt (f := f))
    have magnitude : ((|(if neg then -1 else 1) * f.magnitude n| : ℚ) : ℝ) = f.scale n :=
      congrArg _ abs_signed_magnitude
    obtain ⟨i, u, o, z, invalid⟩ := signals_bits lost tiny
    rw [if_neg (not_le.mpr finite)]
    refine ⟨_, _, rfl, toNat_pack_lt format neg fits, signOf_pack format neg fits,
      fun overflows => absurd (overflow.mp overflows) (not_le.mpr finite),
      fun _ => ⟨_, rational_pack format neg finite, ?_⟩⟩
    rw [magnitude]
    refine ⟨fun toward => ?_, fun away => ?_, fun nearest c y number => ?_, ?_, ?_, o, z, invalid⟩
    · obtain ⟨below, most⟩ := place.of_toward mono toward
      refine ⟨below, fun c y number le => ?_⟩
      rw [abs_of_rational number] at le ⊢
      rw [abs_signed_magnitude]
      exact Rat.cast_le.mp (most _ le)
    · obtain ⟨above, least⟩ := place.of_away mono away
      refine ⟨above, fun c y number le => ?_⟩
      rw [abs_of_rational number] at le ⊢
      rw [abs_signed_magnitude]
      exact Rat.cast_le.mp (least _ le)
    · obtain ⟨near, even⟩ := place.of_nearest mono nearest (f.magBits c)
      rw [abs_of_rational number, abs_signed_magnitude]
      refine ⟨near, fun tie other => getLsbD_zero_pack format fits (even tie fun same => other ?_)⟩
      exact Rat.cast_injective same
    · rw [i, inexact]
    · rw [u, Bool.and_eq_true, inexact, tininess]
  · rw [if_pos beyond]
    obtain ⟨bound, sign⟩ := overflowed_encoding format rm neg
    refine ⟨_, _, rfl, bound, sign, fun _ => ⟨rfl, overflowed_of_toward, fun notToward => ?_⟩,
      fun finite => absurd (overflow.mpr beyond) finite⟩
    rw [overflowed_of_not_toward notToward]
    exact value_infinity format neg

/-- An exact number of the format is delivered in every mode, with no signal. -/
theorem exact_of_rounds {c : Dword} (rounds : Rounds f nu rm (f.signOf c) (f.scale (f.magBits c)) out)
    (finite : f.magBits c < f.infBits) (encodes : c.toNat < 2 ^ (f.expBits + f.fracBits + 1)) : out = .result c 0 := by
  obtain ⟨n, lost, tiny, rfl, place, inexact, -⟩ := rounds
  obtain rfl := place.eq_of_term (scale_strictMono f)
  have exact : lost = false := Bool.eq_false_iff.mpr fun h => inexact.mp h rfl
  rw [FloatFormat.delivered, if_neg (not_le.mpr finite), pack_signOf_magBits format encodes, exact, Bool.and_false]
  rfl

end

/-! ## A value known by its leading bits and a sticky bit -/

/-- `v` and `v'` are on the same side of `t`. -/
def SameSide (v v' t : ℝ) : Prop := (v < t ↔ v' < t) ∧ (t < v ↔ t < v')

theorem SameSide.eq_iff {v v' t : ℝ} (same : SameSide v v' t) : t = v ↔ t = v' := by
  simp only [le_antisymm_iff, ← not_lt, same.1, same.2]

/-- `v` and `v'` are on the same side of every number that rounding in format `f` compares its argument with. -/
def RoundsAlike (f : FloatFormat) (v v' : ℝ) : Prop :=
  ∀ (n : Nat) (q : Int), n ≤ 2 ^ (f.fracBits + 2) → SameSide v v' (n * (2 : ℝ) ^ q)

section
variable {v' : ℝ} (alike : RoundsAlike f v v')
include alike

theorem RoundsAlike.scale (n : Nat) : SameSide v v' (f.scale n) := by
  obtain ⟨r, q, small, here, -⟩ := exists_scale_quantum f n
  rw [here]
  exact alike r q (by rw [Nat.pow_succ]; omega)

theorem RoundsAlike.picksUpper_iff (n : Nat) (odd : Prop) :
    PicksUpper rm neg (f.scale n) (f.scale (n + 1)) v odd ↔ PicksUpper rm neg (f.scale n) (f.scale (n + 1)) v' odd := by
  rcases mode_cases rm neg with ⟨toward, -⟩ | ⟨away, -⟩ | ⟨rfl, -⟩
  · rw [picksUpper_iff_of_toward toward, picksUpper_iff_of_toward toward]
  · rw [picksUpper_iff_of_away away, picksUpper_iff_of_away away, Ne, Ne, (alike.scale n).eq_iff]
  · obtain ⟨r, q, small, here, next⟩ := exists_scale_quantum f n
    have middle : f.scale n + f.scale (n + 1) = 2 * ((2 * r + 1 : Nat) * (2 : ℝ) ^ (q - 1)) := by
      have half : (2 : ℝ) ^ q = 2 * 2 ^ (q - 1) := by rw [← zpow_one_add₀ two_ne_zero, add_sub_cancel]
      rw [here, next, half]
      push_cast
      ring
    have same := alike (2 * r + 1) (q - 1) (by rw [Nat.pow_succ]; omega)
    rw [picksUpper_nearest_iff, picksUpper_nearest_iff, middle, mul_lt_mul_iff_right₀ two_pos,
      mul_lt_mul_iff_right₀ two_pos, mul_right_inj' two_ne_zero, mul_right_inj' two_ne_zero, same.2, same.eq_iff]

theorem RoundsAlike.roundsIn {n : Nat} (rounds : RoundsIn f.scale rm neg v' n) : RoundsIn f.scale rm neg v n := by
  obtain ⟨i, le, lt, place⟩ := rounds
  rw [← alike.picksUpper_iff] at place
  exact ⟨i, not_lt.mp (mt (alike.scale i).1.mp (not_lt.mpr le)), (alike.scale (i + 1)).1.mpr lt, place⟩

theorem RoundsAlike.passes_iff : Passes rm neg (2 ^ f.minExp - 2 ^ (f.minExp - f.fracBits - 1)) (2 ^ f.minExp) v ↔
    Passes rm neg (2 ^ f.minExp - 2 ^ (f.minExp - f.fracBits - 1)) (2 ^ f.minExp) v' := by
  have most := Nat.one_le_two_pow (n := f.fracBits)
  have hi : (2 : ℝ) ^ f.minExp = (1 : Nat) * 2 ^ f.minExp := by rw [Nat.cast_one, one_mul]
  have ulp : (2 : ℝ) ^ f.minExp = 2 ^ (f.fracBits + 1) * 2 ^ (f.minExp - f.fracBits - 1) := by
    rw [← zpow_natCast, ← zpow_add₀ two_ne_zero]
    congr 1
    push_cast
    ring
  have half : (2 : ℝ) ^ (f.minExp - f.fracBits - 1) = 2 * 2 ^ (f.minExp - f.fracBits - 2) := by
    rw [← zpow_one_add₀ two_ne_zero]
    congr 1
    ring
  have lo : (2 : ℝ) ^ f.minExp - 2 ^ (f.minExp - f.fracBits - 1) =
      (2 ^ (f.fracBits + 1) - 1 : Nat) * 2 ^ (f.minExp - f.fracBits - 1) := by
    rw [ulp, Nat.cast_sub Nat.one_le_two_pow]
    push_cast
    ring
  have middle : 2 ^ f.minExp - 2 ^ (f.minExp - f.fracBits - 1) + 2 ^ f.minExp =
      2 * ((2 ^ (f.fracBits + 2) - 1 : Nat) * (2 : ℝ) ^ (f.minExp - f.fracBits - 2)) := by
    rw [ulp, half, Nat.cast_sub Nat.one_le_two_pow]
    push_cast
    ring
  have atHi := alike 1 f.minExp Nat.one_le_two_pow
  have atLo := alike (2 ^ (f.fracBits + 1) - 1) (f.minExp - f.fracBits - 1) (by rw [Nat.pow_succ, Nat.pow_succ]; omega)
  have atMiddle := alike (2 ^ (f.fracBits + 2) - 1) (f.minExp - f.fracBits - 2) (Nat.sub_le _ _)
  rw [← hi] at atHi
  rw [← lo] at atLo
  unfold Passes
  rw [middle, mul_le_mul_iff_right₀ two_pos, mul_le_mul_iff_right₀ two_pos, ← not_lt, ← not_lt, ← not_lt,
    ← not_lt, atHi.1, atLo.2,
    atMiddle.1]

theorem RoundsAlike.tiny_iff (t : Tininess) : f.Tiny t rm neg v ↔ f.Tiny t rm neg v' := by
  cases t with
  | beforeRounding =>
    have least := (alike 1 f.minExp Nat.one_le_two_pow).1
    rw [Nat.cast_one, one_mul] at least
    simp [FloatFormat.Tiny, least]
  | afterRounding => rw [tiny_afterRounding_iff, tiny_afterRounding_iff, alike.passes_iff]

theorem RoundsAlike.rounds (rounds : Rounds f nu rm neg v' out) : Rounds f nu rm neg v out := by
  obtain ⟨n, lost, tiny, same, place, inexact, tininess⟩ := rounds
  exact ⟨n, lost, tiny, same, alike.roundsIn place, inexact.trans (not_congr (alike.scale n).eq_iff.symm),
    tininess.trans (alike.tiny_iff nu.tininess).symm⟩

end

/-- Two values between the same neighbouring multiples of `u`, both at the lower one or both above it, are on the same
side of every multiple of `u`. -/
theorem sameSide_multiple {v v' u : ℝ} {q i : Nat} (le : q * u ≤ v) (lt : v < (q + 1) * u) (le' : q * u ≤ v')
    (lt' : v' < (q + 1) * u) (same : q * u = v ↔ q * u = v') (pos : 0 < u) : SameSide v v' (i * u) := by
  rcases lt_trichotomy i q with below | rfl | above
  · have before : i * u < q * u := mul_lt_mul_of_pos_right (Nat.cast_lt.mpr below) pos
    exact ⟨iff_of_false (by linarith) (by linarith), iff_of_true (by linarith) (by linarith)⟩
  · exact ⟨iff_of_false (by linarith) (by linarith), by rw [le.lt_iff_ne, le'.lt_iff_ne, Ne, Ne, same]⟩
  · have after : (q + 1) * u ≤ i * u := mul_le_mul_of_nonneg_right (by exact_mod_cast above) pos.le
    exact ⟨iff_of_true (by linarith) (by linarith), iff_of_false (by linarith) (by linarith)⟩

/-- The last bit of `2 q + sticky` stands for all that follows the `q` leading bits, where those are enough. -/
theorem roundsAlike_sticky {q sticky : Nat} {a : Int} (enough : 2 ^ (f.fracBits + 2) ≤ q) (le : q * (2 : ℝ) ^ a ≤ v)
    (lt : v < (q + 1) * (2 : ℝ) ^ a) (isSticky : sticky = 0 ∧ q * (2 : ℝ) ^ a = v ∨ sticky = 1 ∧ q * (2 : ℝ) ^ a ≠ v) :
    RoundsAlike f v ((2 * q + sticky : Nat) * (2 : ℝ) ^ (a - 1)) := by
  intro n b small
  have half : (2 : ℝ) ^ a = 2 * 2 ^ (a - 1) := by rw [← zpow_one_add₀ two_ne_zero, add_sub_cancel]
  have pos : (0 : ℝ) < 2 ^ a := zpow_pos two_pos a
  have value : ((2 * q + sticky : Nat) : ℝ) * 2 ^ (a - 1) = q * 2 ^ a + sticky * 2 ^ (a - 1) := by
    rw [half]
    push_cast
    ring
  rw [value]
  have bracket : q * (2 : ℝ) ^ a ≤ q * 2 ^ a + sticky * 2 ^ (a - 1) ∧
      q * (2 : ℝ) ^ a + sticky * 2 ^ (a - 1) < (q + 1) * 2 ^ a ∧
      (q * (2 : ℝ) ^ a = v ↔ q * (2 : ℝ) ^ a = q * 2 ^ a + sticky * 2 ^ (a - 1)) := by
    rcases isSticky with ⟨rfl, exact⟩ | ⟨rfl, inexact⟩
    · rw [Nat.cast_zero, zero_mul, add_zero]
      exact ⟨le_rfl, by linarith, iff_of_true exact rfl⟩
    · rw [Nat.cast_one, one_mul]
      exact ⟨by linarith, by linarith, iff_of_false inexact (by linarith)⟩
  obtain ⟨le', lt', same⟩ := bracket
  rcases le_or_gt a b with multiple | finer
  · have multiples : (n : ℝ) * 2 ^ b = (n * 2 ^ (b - a).toNat : Nat) * 2 ^ a := by
      push_cast
      rw [mul_assoc, two_zpow_toNat_mul multiple]
    rw [multiples]
    exact sameSide_multiple le lt le' lt' same pos
  · have before : n * (2 : ℝ) ^ b < q * 2 ^ a := calc
      n * (2 : ℝ) ^ b ≤ q * (2 : ℝ) ^ b :=
        mul_le_mul_of_nonneg_right (Nat.cast_le.mpr (small.trans enough)) (zpow_pos two_pos b).le
      _ < q * 2 ^ a := mul_lt_mul_of_pos_left (zpow_lt_zpow_right₀ one_lt_two finer)
        (Nat.cast_pos.mpr ((Nat.two_pow_pos _).trans_le enough))
    exact ⟨iff_of_false (by linarith) (by linarith), iff_of_true (by linarith) (by linarith)⟩

end Sys2Proof.Machine
end

section
/-! PROOF. The operations round their exact results (R394 to R398, R410, R411): the sum, the product and the conversions are
exact before they are rounded, the quotient and the root are known by their leading bits and a sticky bit. -/

namespace Sys2Proof.Machine

variable {f g : FloatFormat} {nu : Numerics} {fl : Bool} {rm : Rounding} {a b : Dword} {x y : ℚ}
  {na nb negate neg : Bool} {m ma mb : Nat} {e ea eb : Int} {out : FpOut}

/-! ## The number `± m · 2^e` -/

theorem abs_finiteRat (neg : Bool) (m : Nat) (e : Int) : |finiteRat neg m e| = m * (2 : ℚ) ^ e := by
  have nonneg : (0 : ℚ) ≤ m * 2 ^ e := mul_nonneg m.cast_nonneg (zpow_pos two_pos e).le
  rw [finiteRat, mul_assoc, abs_mul, abs_of_nonneg nonneg]
  cases neg <;> simp

theorem finiteRat_eq_zero_iff : finiteRat neg m e = 0 ↔ m = 0 := by
  rw [← abs_eq_zero, abs_finiteRat, mul_eq_zero, Nat.cast_eq_zero]
  exact or_iff_left (zpow_pos two_pos e).ne'

theorem decide_finiteRat_neg (nonzero : m ≠ 0) : decide (finiteRat neg m e < 0) = neg := by
  have pos : (0 : ℚ) < m * 2 ^ e := mul_pos (Nat.cast_pos.mpr (Nat.pos_of_ne_zero nonzero)) (zpow_pos two_pos e)
  rw [finiteRat, mul_assoc]
  cases neg <;> simp [pos, pos.le]

theorem finiteRat_of_int (i e : Int) : finiteRat (decide (i < 0)) i.natAbs e = i * (2 : ℚ) ^ e := by
  rw [finiteRat, Nat.cast_natAbs, Int.cast_abs]
  rcases lt_or_ge i 0 with below | nonneg
  · rw [abs_of_neg (Int.cast_lt_zero.mpr below)]
    simp [below]
  · rw [abs_of_nonneg (by exact_mod_cast nonneg)]
    simp [not_lt.mpr nonneg]

theorem finiteRat_mul : finiteRat (na ^^ nb) (ma * mb) (ea + eb) = finiteRat na ma ea * finiteRat nb mb eb := by
  have sign : (if (na ^^ nb) then -1 else 1 : ℚ) = (if na then -1 else 1) * (if nb then -1 else 1) := by
    cases na <;> cases nb <;> simp
  rw [finiteRat, finiteRat, finiteRat, sign, zpow_add₀ two_ne_zero]
  push_cast
  ring

theorem finiteRat_not : finiteRat (!neg) m e = -finiteRat neg m e := by
  rw [finiteRat, finiteRat]
  cases neg <;> simp

theorem signOf_of_value (value : f.value b = .finite neg m e) : f.signOf b = neg := by
  unfold FloatFormat.value at value
  dsimp only at value
  split_ifs at value
  · exact (FloatValue.finite.inj value).1
  · exact (FloatValue.finite.inj value).1

/-- A significand has one bit more than the fraction field. -/
theorem mant_lt (value : f.value b = .finite neg m e) : m < 2 ^ (f.fracBits + 1) := by
  have small : f.fracOf b < 2 ^ f.fracBits := Nat.mod_lt _ (Nat.two_pow_pos _)
  unfold FloatFormat.value at value
  dsimp only at value
  rw [Nat.pow_succ]
  split_ifs at value
  · have := (FloatValue.finite.inj value).2.1
    omega
  · have := (FloatValue.finite.inj value).2.1
    omega

section
variable (format : f = FloatFormat.single ∨ f = FloatFormat.double) (gradual : nu.denormal = .gradual)
include format gradual

/-! ## Results that are exact before rounding -/

theorem round_rounds_rat (value : finiteRat neg m e = x) (nonzero : x ≠ 0) :
    Rounds f nu rm (decide (x < 0)) (|x| : ℚ) (f.round nu fl rm neg m e) := by
  subst value
  have mant := mt finiteRat_eq_zero_iff.mpr nonzero
  rw [decide_finiteRat_neg mant, abs_finiteRat]
  push_cast
  exact round_rounds format gradual fl e mant

theorem addFinite_rounds (nonzero : finiteRat na ma ea + finiteRat nb mb eb ≠ 0) :
    Rounds f nu rm (decide (finiteRat na ma ea + finiteRat nb mb eb < 0))
      (|finiteRat na ma ea + finiteRat nb mb eb| : ℚ) (f.addFinite nu fl rm na ma ea nb mb eb) := by
  have sum : ((finiteInt na ma ea (min ea eb) + finiteInt nb mb eb (min ea eb) : Int) : ℚ) * 2 ^ min ea eb =
      finiteRat na ma ea + finiteRat nb mb eb := by
    rw [Int.cast_add, add_mul, finiteInt_mul_two_zpow (min_le_left ea eb), finiteInt_mul_two_zpow (min_le_right ea eb)]
  have sumNonzero : finiteInt na ma ea (min ea eb) + finiteInt nb mb eb (min ea eb) ≠ 0 := fun zero =>
    nonzero (by rw [← sum, zero, Int.cast_zero, zero_mul])
  have value : f.addFinite nu fl rm na ma ea nb mb eb = f.round nu fl rm _ _ _ := if_neg sumNonzero
  rw [value]
  exact round_rounds_rat format gradual ((finiteRat_of_int _ _).trans sum) nonzero

theorem add_rounds (left : f.rational a = some x) (right : f.rational b = some y) (nonzero : x + y ≠ 0) :
    Rounds f nu rm (decide (x + y < 0)) (|x + y| : ℚ) (f.add nu fl rm false a b) := by
  obtain ⟨na, ma, ea, ha, rfl⟩ := rational_eq_some_iff.mp left
  obtain ⟨nb, mb, eb, hb, rfl⟩ := rational_eq_some_iff.mp right
  rw [add_finite_finite (ordinary_of_finite gradual ha) (ordinary_of_finite gradual hb) ha hb, Bool.xor_false]
  exact addFinite_rounds format gradual nonzero

theorem sub_rounds (left : f.rational a = some x) (right : f.rational b = some y) (nonzero : x - y ≠ 0) :
    Rounds f nu rm (decide (x - y < 0)) (|x - y| : ℚ) (f.add nu fl rm true a b) := by
  obtain ⟨na, ma, ea, ha, rfl⟩ := rational_eq_some_iff.mp left
  obtain ⟨nb, mb, eb, hb, rfl⟩ := rational_eq_some_iff.mp right
  rw [add_finite_finite (ordinary_of_finite gradual ha) (ordinary_of_finite gradual hb) ha hb, Bool.xor_true]
  rw [sub_eq_add_neg, ← finiteRat_not] at nonzero ⊢
  exact addFinite_rounds format gradual nonzero

theorem mul_rounds (left : f.rational a = some x) (right : f.rational b = some y) (nonzero : x * y ≠ 0) :
    Rounds f nu rm (decide (x * y < 0)) (|x * y| : ℚ) (f.mul nu fl rm a b) := by
  obtain ⟨na, ma, ea, ha, rfl⟩ := rational_eq_some_iff.mp left
  obtain ⟨nb, mb, eb, hb, rfl⟩ := rational_eq_some_iff.mp right
  rw [mul_finite_finite (ordinary_of_finite gradual ha) (ordinary_of_finite gradual hb) ha hb]
  exact round_rounds_rat format gradual finiteRat_mul nonzero

theorem convert_rounds (number : g.rational a = some x) (nonzero : x ≠ 0) :
    Rounds f nu rm (decide (x < 0)) (|x| : ℚ) (g.convert f nu fl rm a) := by
  obtain ⟨na, ma, ea, ha, rfl⟩ := rational_eq_some_iff.mp number
  rw [convert_finite (ordinary_of_finite gradual ha) ha]
  exact round_rounds_rat format gradual rfl nonzero

theorem ofInt_rounds {i : Int} (nonzero : i ≠ 0) :
    Rounds f nu rm (decide ((i : ℚ) < 0)) (|(i : ℚ)| : ℚ) (f.ofInt nu fl rm i) :=
  round_rounds_rat format gradual ((finiteRat_of_int i 0).trans (by rw [zpow_zero, mul_one]))
    (Int.cast_ne_zero.mpr nonzero)

/-! ## Results known by leading bits and a sticky bit -/

/-- The exact value has the leading bits `q` before its last binary place `a`, and a sticky bit for the rest. -/
theorem round_rounds_sticky {v : ℝ} {q sticky : Nat} {place : Int} (enough : 2 ^ (f.fracBits + 2) ≤ q)
    (le : q * (2 : ℝ) ^ place ≤ v) (lt : v < (q + 1) * (2 : ℝ) ^ place)
    (isSticky : sticky = 0 ∧ q * (2 : ℝ) ^ place = v ∨ sticky = 1 ∧ q * (2 : ℝ) ^ place ≠ v) :
    Rounds f nu rm neg v (f.round nu fl rm neg (2 * q + sticky) (place - 1)) :=
  (roundsAlike_sticky enough le lt isSticky).rounds (round_rounds format gradual fl _ (by
    have := Nat.two_pow_pos (f.fracBits + 2)
    omega))

theorem divFinite_rounds (left : ma ≠ 0) (right : mb ≠ 0) (small : mb < 2 ^ (f.fracBits + 1)) :
    Rounds f nu rm neg (ma / mb * (2 : ℝ) ^ (ea - eb)) (f.divFinite nu fl rm neg ma ea mb eb) := by
  have pos : (0 : ℝ) < mb := Nat.cast_pos.mpr (Nat.pos_of_ne_zero right)
  have unit : (0 : ℝ) < 2 ^ (ea - eb - (2 * f.fracBits + 6 : Nat)) := zpow_pos two_pos _
  have value : ma / mb * (2 : ℝ) ^ (ea - eb) =
      (ma * 2 ^ (2 * f.fracBits + 6) : Nat) / mb * 2 ^ (ea - eb - (2 * f.fracBits + 6 : Nat)) := by
    rw [zpow_sub₀ two_ne_zero (ea - eb), zpow_natCast]
    push_cast
    field_simp
  have parts := Nat.div_add_mod' (ma * 2 ^ (2 * f.fracBits + 6)) mb
  have rest := Nat.mod_lt (ma * 2 ^ (2 * f.fracBits + 6)) (Nat.pos_of_ne_zero right)
  rw [value]
  refine round_rounds_sticky format gradual (q := ma * 2 ^ (2 * f.fracBits + 6) / mb)
    (sticky := if ma * 2 ^ (2 * f.fracBits + 6) % mb = 0 then 0 else 1) ?_ ?_ ?_ ?_
  · rw [Nat.le_div_iff_mul_le (Nat.pos_of_ne_zero right)]
    calc 2 ^ (f.fracBits + 2) * mb ≤ 2 ^ (f.fracBits + 2) * 2 ^ (f.fracBits + 1) := Nat.mul_le_mul_left _ small.le
      _ = 2 ^ (2 * f.fracBits + 3) := by rw [← Nat.pow_add]; congr 1; omega
      _ ≤ 2 ^ (2 * f.fracBits + 6) := Nat.pow_le_pow_right two_pos (by omega)
      _ ≤ ma * 2 ^ (2 * f.fracBits + 6) := Nat.le_mul_of_pos_left _ (Nat.pos_of_ne_zero left)
  · exact mul_le_mul_of_nonneg_right Nat.cast_div_le unit.le
  · refine mul_lt_mul_of_pos_right ?_ unit
    rw [div_lt_iff₀ pos]
    norm_cast
    rw [Nat.add_mul]
    omega
  · rw [Ne, mul_left_inj' unit.ne', eq_div_iff pos.ne', ← Nat.cast_mul, Nat.cast_inj]
    split
    · exact .inl ⟨rfl, by omega⟩
    · exact .inr ⟨rfl, by omega⟩

theorem div_rounds (left : f.rational a = some x) (right : f.rational b = some y) (nonzero : x / y ≠ 0) :
    Rounds f nu rm (decide (x / y < 0)) (|x / y| : ℚ) (f.div nu fl rm a b) := by
  obtain ⟨na, ma, ea, ha, rfl⟩ := rational_eq_some_iff.mp left
  obtain ⟨nb, mb, eb, hb, rfl⟩ := rational_eq_some_iff.mp right
  obtain ⟨dividend, divisor⟩ := div_ne_zero_iff.mp nonzero
  have hma := mt finiteRat_eq_zero_iff.mpr dividend
  have hmb := mt finiteRat_eq_zero_iff.mpr divisor
  have sign : decide (finiteRat na ma ea / finiteRat nb mb eb < 0) = (na ^^ nb) := by
    rw [← decide_finiteRat_neg (neg := na ^^ nb) (e := ea + eb) (Nat.mul_ne_zero hma hmb), finiteRat_mul]
    exact decide_eq_decide.mpr (div_neg_iff.trans mul_neg_iff.symm)
  have magnitude : ((|finiteRat na ma ea / finiteRat nb mb eb| : ℚ) : ℝ) = ma / mb * (2 : ℝ) ^ (ea - eb) := by
    rw [abs_div, abs_finiteRat, abs_finiteRat, zpow_sub₀ two_ne_zero]
    push_cast
    field_simp
  rw [div_finite_finite (ordinary_of_finite gradual ha) (ordinary_of_finite gradual hb) ha hb hmb, sign, magnitude]
  exact divFinite_rounds format gradual hma hmb (mant_lt hb)

end

/-! ## The square root -/

/-- The bits that are found are those of the root. -/
theorem squareRootFrom_spec (i : Nat) {x r : Nat} (le : r * r ≤ x) (lt : x < (r + 2 ^ i) * (r + 2 ^ i)) :
    squareRootFrom i x r * squareRootFrom i x r ≤ x ∧
      x < (squareRootFrom i x r + 1) * (squareRootFrom i x r + 1) := by
  induction i generalizing r with
  | zero => exact ⟨le, lt⟩
  | succ i ih =>
    rw [squareRootFrom]
    rw [Nat.pow_succ, Nat.mul_two, ← Nat.add_assoc] at lt
    split
    · exact ih ‹_› lt
    · exact ih le (not_le.mp ‹_›)

section
variable {p k r : Nat}

/-- The root of the widened radicand is below the first bit that is tried. -/
theorem radicand_lt (small : m < 2 ^ (p + 1)) (wide : k ≤ 2 * p + 7) :
    m * 2 ^ k < (0 + 2 ^ (2 * p + 6)) * (0 + 2 ^ (2 * p + 6)) := by
  rw [Nat.zero_add, ← Nat.pow_add]
  calc m * 2 ^ k < 2 ^ (p + 1) * 2 ^ k := Nat.mul_lt_mul_of_pos_right small (Nat.two_pow_pos k)
    _ = 2 ^ (p + 1 + k) := (Nat.pow_add ..).symm
    _ ≤ 2 ^ (2 * p + 6 + (2 * p + 6)) := Nat.pow_le_pow_right two_pos (by omega)

/-- It has enough bits for one rounding. -/
theorem two_pow_le_root (nonzero : m ≠ 0) (wide : 2 * p + 6 ≤ k) (lt : m * 2 ^ k < (r + 1) * (r + 1)) :
    2 ^ (p + 2) ≤ r := by
  have square : 2 ^ (p + 3) * 2 ^ (p + 3) ≤ m * 2 ^ k := by
    rw [← Nat.pow_add]
    exact (Nat.pow_le_pow_right two_pos (by omega)).trans (Nat.le_mul_of_pos_left _ (Nat.pos_of_ne_zero nonzero))
  have root : 2 ^ (p + 3) < r + 1 := lt_of_mul_self_lt_mul_self₀ (Nat.zero_le _) (square.trans_lt lt)
  rw [Nat.pow_succ] at root
  omega

end

section
variable (format : f = FloatFormat.single ∨ f = FloatFormat.double) (gradual : nu.denormal = .gradual)
include format gradual

/-- A root that is known to `r` whole units, with a sticky bit for the rest. -/
theorem round_rounds_root {x r : Nat} (enough : 2 ^ (f.fracBits + 2) ≤ r) (le : r * r ≤ x)
    (lt : x < (r + 1) * (r + 1)) (place : Int) : Rounds f nu rm false (Real.sqrt x * (2 : ℝ) ^ place)
      (f.round nu fl rm false (2 * r + if r * r = x then 0 else 1) (place - 1)) := by
  have unit : (0 : ℝ) < 2 ^ place := zpow_pos two_pos place
  have below : (r : ℝ) ≤ Real.sqrt x := Real.le_sqrt_of_sq_le (by rw [sq]; exact_mod_cast le)
  have above : Real.sqrt x < r + 1 := (Real.sqrt_lt' (by positivity)).mpr (by rw [sq]; exact_mod_cast lt)
  have exact : r * (2 : ℝ) ^ place = Real.sqrt x * 2 ^ place ↔ r * r = x := by
    rw [mul_left_inj' unit.ne', eq_comm, Real.sqrt_eq_iff_mul_self_eq (Nat.cast_nonneg _) (Nat.cast_nonneg _),
      ← Nat.cast_mul, Nat.cast_inj]
    exact eq_comm
  refine round_rounds_sticky format gradual enough (mul_le_mul_of_nonneg_right below unit.le)
    (mul_lt_mul_of_pos_right above unit) ?_
  rw [Ne, exact]
  split
  · exact .inl ⟨rfl, ‹_›⟩
  · exact .inr ⟨rfl, ‹_›⟩

theorem sqrtFinite_rounds (nonzero : m ≠ 0) (small : m < 2 ^ (f.fracBits + 1)) :
    Rounds f nu rm false (Real.sqrt (m * (2 : ℝ) ^ e)) (f.sqrtFinite nu fl rm m e) := by
  obtain ⟨k, hk⟩ : ∃ k, 2 * f.fracBits + 6 + (e % 2).toNat = k := ⟨_, rfl⟩
  obtain ⟨place, even⟩ : ∃ place : Int, e = 2 * place + k := ⟨(e - k) / 2, by omega⟩
  have exponent : (e - k) / 2 = place := by omega
  have square : m * (2 : ℝ) ^ e = (m * 2 ^ k : Nat) * (2 ^ place) ^ 2 := by
    rw [even, zpow_add₀ two_ne_zero, zpow_natCast, mul_comm 2 place, zpow_mul, zpow_ofNat]
    push_cast
    ring
  obtain ⟨le, lt⟩ := squareRootFrom_spec (2 * f.fracBits + 6) (Nat.zero_le (m * 2 ^ k))
    (radicand_lt small (by omega))
  rw [square, Real.sqrt_mul (Nat.cast_nonneg _), Real.sqrt_sq (zpow_pos two_pos place).le,
    FloatFormat.sqrtFinite, hk, exponent]
  exact round_rounds_root format gradual (two_pow_le_root nonzero (by omega) lt) le lt place

theorem sqrt_rounds (number : f.rational a = some x) (positive : 0 < x) :
    Rounds f nu rm false (Real.sqrt x) (f.sqrt nu fl rm a) := by
  obtain ⟨na, ma, ea, ha, rfl⟩ := rational_eq_some_iff.mp number
  have mant := mt finiteRat_eq_zero_iff.mpr positive.ne'
  have sign : na = false := by
    rw [← decide_finiteRat_neg (neg := na) (e := ea) mant]
    exact decide_eq_false (not_lt.mpr positive.le)
  subst sign
  rw [sqrt_finite (ordinary_of_finite gradual ha) ha, if_neg mant, ← abs_of_pos positive, abs_finiteRat]
  push_cast
  exact sqrtFinite_rounds format gradual mant (mant_lt ha)

end

end Sys2Proof.Machine

namespace Sys2Proof

open Machine

/-- Settles O55: each operation rounds its exact result, and a rounding delivers what IEEE 754 says. -/
theorem inexactResultsAreRounded : Obligations.InexactResultsAreRounded := by
  intro f g nu fl rm format _ gradual
  refine ⟨fun neg m e nonzero => delivers_of_rounds format (round_rounds format gradual fl e nonzero),
    fun a b x y left right => ⟨fun nonzero => delivers_of_rounds format (add_rounds format gradual left right nonzero),
      fun nonzero => delivers_of_rounds format (sub_rounds format gradual left right nonzero),
      fun nonzero => delivers_of_rounds format (mul_rounds format gradual left right nonzero),
      fun nonzero => delivers_of_rounds format (div_rounds format gradual left right nonzero)⟩,
    fun a x number positive => delivers_of_rounds format (sqrt_rounds format gradual number positive),
    fun a x number nonzero => delivers_of_rounds format (convert_rounds format gradual number nonzero),
    fun i nonzero => ?_⟩
  have rounds := delivers_of_rounds format (ofInt_rounds (fl := fl) (rm := rm) format gradual nonzero)
  simpa using rounds

end Sys2Proof
end

section
/-! PROOF. Exact, infinite and zero results (R393 to R398, R410, R411): what is a number of the format is its own rounding,
and a zero or an infinity has the sign that IEEE 754 gives it. -/

namespace Sys2Proof.Machine

variable {f g : FloatFormat} {nu : Numerics} {fl : Bool} {rm : Rounding} {a b c : Dword} {x y z : ℚ}
  {na nb negate neg : Bool} {m ma mb : Nat} {e ea eb : Int} {out : FpOut}

/-! ## Exact results -/

/-- The rounding of a number of the format, not zero, is that number. -/
theorem result_of_rounds (format : f = FloatFormat.single ∨ f = FloatFormat.double) (number : f.rational c = some z)
    (nonzero : z ≠ 0) (encodes : c.toNat < 2 ^ (f.expBits + f.fracBits + 1)) {v : ℝ} (magnitude : v = (|z| : ℚ))
    (rounds : Rounds f nu rm (decide (z < 0)) v out) : out = .result c 0 := by
  rw [← signOf_of_rational number nonzero, magnitude, abs_of_rational number] at rounds
  exact exact_of_rounds format rounds (rational_eq_some_iff_magnitude.mp number).1 encodes

/-! ## Zeros -/

theorem round_zero (f : FloatFormat) (nu : Numerics) (fl : Bool) (rm : Rounding) (neg : Bool) (e : Int) :
    f.round nu fl rm neg 0 e = .result (f.zero neg) Signals.none := if_pos rfl

/-- An encoding of zero is a signed zero. -/
theorem zero_of_finite (format : f = FloatFormat.single ∨ f = FloatFormat.double)
    (encodes : c.toNat < 2 ^ (f.expBits + f.fracBits + 1)) (value : f.value c = .finite neg 0 e) : f.zero neg = c := by
  have place : f.magnitude (f.magBits c) = f.magnitude 0 := by
    rw [← abs_of_rational (rational_of_finite value), abs_finiteRat, magnitude_zero, Nat.cast_zero, zero_mul]
  rw [FloatFormat.zero, ← signOf_of_value value, ← (magnitude_strictMono f).injective place]
  exact pack_signOf_magBits format encodes

/-- A number of the format is its own rounding. -/
theorem round_of_value (format : f = FloatFormat.single ∨ f = FloatFormat.double) (gradual : nu.denormal = .gradual)
    (encodes : c.toNat < 2 ^ (f.expBits + f.fracBits + 1)) (value : f.value c = .finite neg m e) :
    f.round nu fl rm neg m e = .result c 0 := by
  rcases eq_or_ne m 0 with rfl | nonzero
  · rw [round_zero, zero_of_finite format encodes value]
    rfl
  · have number : finiteRat neg m e ≠ 0 := mt finiteRat_eq_zero_iff.mp nonzero
    exact result_of_rounds format (rational_of_finite value) number encodes rfl
      (round_rounds_rat format gradual rfl number)

/-- The sign of an exact zero sum. -/
theorem addFinite_zero (zero : finiteRat na ma ea + finiteRat nb mb eb = 0) : f.addFinite nu fl rm na ma ea nb mb eb =
    .result (f.zero (if na = nb then na else decide (rm = .down))) 0 := by
  have sum : ((finiteInt na ma ea (min ea eb) + finiteInt nb mb eb (min ea eb) : Int) : ℚ) * 2 ^ min ea eb = 0 := by
    rw [Int.cast_add, add_mul, finiteInt_mul_two_zpow (min_le_left ea eb), finiteInt_mul_two_zpow (min_le_right ea eb),
      zero]
  have intZero : finiteInt na ma ea (min ea eb) + finiteInt nb mb eb (min ea eb) = 0 :=
    Int.cast_eq_zero.mp ((mul_eq_zero.mp sum).resolve_right (zpow_pos two_pos _).ne')
  exact if_pos intZero

theorem divFinite_zero : f.divFinite nu fl rm neg 0 ea mb eb = .result (f.zero neg) 0 := by
  rw [FloatFormat.divFinite]
  simp [round_zero, Signals.none]

section
variable (format : f = FloatFormat.single ∨ f = FloatFormat.double) (gradual : nu.denormal = .gradual)
include format gradual

/-- The root of the square of a number of the format. -/
theorem sqrt_exact (left : f.rational a = some (z * z)) (number : f.rational c = some z) (positive : 0 < z)
    (encodes : c.toNat < 2 ^ (f.expBits + f.fracBits + 1)) : f.sqrt nu fl rm a = .result c 0 := by
  have root : Real.sqrt (z * z : ℚ) = (|z| : ℚ) := by rw [Rat.cast_mul, Real.sqrt_mul_self_eq_abs, Rat.cast_abs]
  have rounds := sqrt_rounds (fl := fl) (rm := rm) format gradual left (mul_pos positive positive)
  rw [← decide_eq_false (not_lt.mpr positive.le)] at rounds
  exact result_of_rounds format number positive.ne' encodes root rounds

end

section
variable (ha : Ordinary f nu a) (left : f.value a = .finite na ma ea)
include ha left

/-- A zero result of an operation on two numbers. -/
theorem zero_results (hb : Ordinary f nu b) (right : f.value b = .finite nb mb eb) :
    (finiteRat na ma ea + finiteRat nb mb eb = 0 → f.add nu fl rm false a b =
      .result (f.zero (if na = nb then na else decide (rm = .down))) 0) ∧
    (finiteRat na ma ea - finiteRat nb mb eb = 0 → f.add nu fl rm true a b =
      .result (f.zero (if na ≠ nb then na else decide (rm = .down))) 0) ∧
    (finiteRat na ma ea * finiteRat nb mb eb = 0 → f.mul nu fl rm a b = .result (f.zero (na != nb)) 0) ∧
    (finiteRat na ma ea = 0 → finiteRat nb mb eb ≠ 0 → f.div nu fl rm a b = .result (f.zero (na != nb)) 0) := by
  rw [add_finite_finite ha hb left right, add_finite_finite ha hb left right, mul_finite_finite ha hb left right,
    Bool.xor_false, Bool.xor_true]
  refine ⟨addFinite_zero, fun zero => ?_, fun zero => ?_, fun zero divisor => ?_⟩
  · rw [sub_eq_add_neg, ← finiteRat_not] at zero
    simp only [addFinite_zero zero, Bool.eq_not]
  · rw [finiteRat_eq_zero_iff.mp (finiteRat_mul.trans zero), round_zero]
    rfl
  · rw [div_finite_finite ha hb left right (mt finiteRat_eq_zero_iff.mpr divisor), finiteRat_eq_zero_iff.mp zero]
    exact divFinite_zero

/-- An operation on a number and an infinity. -/
theorem infinity_results {n : Bool} (inf : f.value b = .inf n) :
    f.add nu fl rm false a b = .result (f.infinity n) 0 ∧ f.add nu fl rm false b a = .result (f.infinity n) 0 ∧
    f.add nu fl rm true a b = .result (f.infinity !n) 0 ∧ f.add nu fl rm true b a = .result (f.infinity n) 0 ∧
    (finiteRat na ma ea ≠ 0 → f.mul nu fl rm a b = .result (f.infinity (na != n)) 0 ∧
      f.mul nu fl rm b a = .result (f.infinity (na != n)) 0) ∧
    f.div nu fl rm a b = .result (f.zero (na != n)) 0 ∧ f.div nu fl rm b a = .result (f.infinity (na != n)) 0 := by
  refine ⟨?_, add_inf_finite inf ha left, ?_, add_inf_finite inf ha left, fun nonzero => ?_, div_finite_inf inf ha left,
    ?_⟩
  · rw [add_finite_inf inf ha left, Bool.xor_false]
    rfl
  · rw [add_finite_inf inf ha left, Bool.xor_true]
    rfl
  · have mant := mt finiteRat_eq_zero_iff.mpr nonzero
    rw [mul_finite_inf inf ha left, mul_inf_finite inf ha left, if_neg mant, if_neg mant, Bool.xor_comm n na]
    exact ⟨rfl, rfl⟩
  · rw [div_inf_finite inf ha left, Bool.xor_comm]
    rfl

end

end Sys2Proof.Machine

namespace Sys2Proof

open Machine

/-- Settles O56: exact results are rounded to themselves; the other cases are read off the operands' classes. -/
theorem exactResultsAreDelivered : Obligations.ExactResultsAreDelivered := by
  refine ⟨fun f b nu fl rm neg m e format encodes gradual value => round_of_value format gradual encodes value,
    ?exact, ?zeroOrInfinity, ?infinities⟩
  case exact =>
    intro f g nu fl rm a b c x y z format gradual left number nonzero encodes
    refine ⟨fun right => ⟨?_, ?_, ?_, fun _ => ?_⟩, fun positive => ?_, fun _ d source => ?_, fun i => ?_⟩
    · rintro rfl
      exact result_of_rounds format number nonzero encodes rfl (add_rounds format gradual left right nonzero)
    · rintro rfl
      exact result_of_rounds format number nonzero encodes rfl (sub_rounds format gradual left right nonzero)
    · rintro rfl
      exact result_of_rounds format number nonzero encodes rfl (mul_rounds format gradual left right nonzero)
    · rintro rfl
      exact result_of_rounds format number nonzero encodes rfl (div_rounds format gradual left right nonzero)
    · rintro rfl
      exact sqrt_exact format gradual left number positive encodes
    · exact result_of_rounds format number nonzero encodes rfl (convert_rounds format gradual source nonzero)
    · rintro rfl
      exact result_of_rounds format number nonzero encodes rfl
        (ofInt_rounds format gradual (Int.cast_ne_zero.mp nonzero))
  case zeroOrInfinity =>
    intro f g nu fl rm a b x y format gradual left
    obtain ⟨na, ma, ea, ha, rfl⟩ := rational_eq_some_iff.mp left
    have ordinary := ordinary_of_finite gradual ha
    rw [signOf_of_value ha]
    refine ⟨fun right => ?_, fun zero => ?_, round_zero .., fun n inf => ?_⟩
    · obtain ⟨nb, mb, eb, hb, rfl⟩ := rational_eq_some_iff.mp right
      rw [signOf_of_value hb]
      exact zero_results ordinary ha (ordinary_of_finite gradual hb) hb
    · have mant := finiteRat_eq_zero_iff.mp zero
      rw [sqrt_finite ordinary ha, convert_finite ordinary ha, mant, round_zero]
      exact ⟨rfl, rfl⟩
    · obtain ⟨add, add', sub, sub', mul, div, div'⟩ := infinity_results (fl := fl) (rm := rm) ordinary ha inf
      exact ⟨add, add', sub, sub', mul, div, div', convert_inf inf,
        fun plus => (sqrt_inf inf).trans (by rw [plus]; rfl)⟩
  case infinities =>
    intro f nu fl rm a b m n _ left right
    rw [add_inf_inf left right, add_inf_inf left right, mul_inf_inf left right, Bool.xor_false, Bool.xor_true]
    exact ⟨fun like => if_pos like, fun unlike => if_pos (Bool.eq_not.mpr unlike), rfl⟩

end Sys2Proof
end
